-- ==== Sys2Proof/Word.lean ====
section
/-! DEFINITION. The two word sizes of the yagbemu CORE (R6): general registers and memory cells are 8 bits wide, the pairs,
PC, SP and addresses are 16 bits wide. Arithmetic on both wraps (R9), which is `BitVec` arithmetic. -/

namespace Sys2Proof

/-- A byte: an 8-bit register, a memory cell, an 8-bit immediate (R6). -/
abbrev Byte := BitVec 8

/-- A 16-bit value: a register pair, PC, SP, an address (R6). -/
abbrev Word := BitVec 16

end Sys2Proof
end

