-- ==== Sys2Proof/Machine/Bits.lean ====
section
/-! DEFINITION. Bit fields, byte order and sign extension in the notation of R9: the halves of a word, `{hi, lo}`, `sext_16`,
`zext_16`, one bit of a byte, and the one-place shifts of the rotate family. -/

namespace Sys2Proof

/-- `v[7:0]`, the byte at the lower address of a word access (R80). -/
def loByte (w : Word) : Byte := w.extractLsb' 0 8

/-- `v[15:8]`, the byte at the higher address of a word access (R80). -/
def hiByte (w : Word) : Byte := w.extractLsb' 8 8

/-- `{hi, lo}` (R9, R22). -/
def wordOf (hi lo : Byte) : Word := hi ++ lo

/-- `sext_16(e)`: the signed 8-bit immediate of format OP_E8 (R127). -/
def sext16 (e : Byte) : Word := e.signExtend 16

/-- `zext_16(n)` (R127). -/
def zext16 (n : Byte) : Word := n.setWidth 16

/-- `v[i]` (R9). -/
def bitAt (v : Byte) (i : Nat) : Bool := v.getLsbD i

/-- `v & ~(1 << b)` (R284). -/
def clearBit (v : Byte) (b : Nat) : Byte := v &&& ~~~(1#8 <<< b)

/-- `v | (1 << b)` (R285). -/
def setBit (v : Byte) (b : Nat) : Byte := v ||| (1#8 <<< b)

/-- `{v[6:0], c}`: one place left, `c` shifted in at bit 0 (R270, R271, R275, R277, R279). -/
def shiftInLow (v : Byte) (c : Bool) : Byte := v.extractLsb' 0 7 ++ BitVec.ofBool c

/-- `{c, v[7:1]}`: one place right, `c` shifted in at bit 7 (R272, R273, R276, R278, R280, R282). -/
def shiftInHigh (v : Byte) (c : Bool) : Byte := BitVec.ofBool c ++ v.extractLsb' 1 7

/-- `{v[3:0], v[7:4]}` (R281). -/
def swapNibbles (v : Byte) : Byte := v.extractLsb' 0 4 ++ v.extractLsb' 4 4

/-- A truth value as the number 0 or 1, for a carry that takes part in a sum (R202, R204). -/
def bit01 (b : Bool) : Nat := if b then 1 else 0

end Sys2Proof
end

