-- ==== Sys2Proof/Config.lean ====
section
/-! DEFINITION. The parameters of R7 that are plain settings of the machine. `CART`, `BOOT_OVERLAY` and `INIT`, the other
three parameters of R7, are bytes the machine is loaded with: the first two are read-only fields of `State`, the third is
an argument of `Machine.powerOn`. The settings below also stand in `State` (field `config`), which no step changes, so a
statement about every state is a statement about every choice of them. -/

namespace Sys2Proof

/-- The settings of R7: `STUB_OPTIONAL`, `EXTRAM_OPEN_READ` and `CYCLES`. -/
structure Config where
  /-- `STUB_OPTIONAL`: when true, SBC, RES and SET have no handler (R135). -/
  stubOptional : Bool
  /-- `EXTRAM_OPEN_READ`: what a read of disabled or absent external RAM returns (R72). -/
  extramOpenRead : Byte
  /-- `CYCLES`: the costs that differ from the table of R131, as pairs of an opcode's number (0 to 255 a primary opcode,
  256 + op2 an extended one) and its cost. The empty list is the table of R131. -/
  cycleOverrides : List (Nat × Nat)
  deriving DecidableEq, Repr

/-- The defaults R7 gives for the three settings. -/
def Config.default : Config where
  stubOptional := false
  extramOpenRead := 0xFF#8
  cycleOverrides := []

/-- A cost table the spec admits: every cost lies in 4 to 32 (R131). -/
abbrev Config.Admitted (c : Config) : Prop := ∀ p ∈ c.cycleOverrides, 4 ≤ p.2 ∧ p.2 ≤ 32

end Sys2Proof
end

