-- ==== Sys2Proof/Machine/Memory.lean ====
section
/-! DEFINITION. Sparse stores as plain data: a list of (key, value) pairs with keys strictly rising and no pair whose value
is what an unlisted key reads as, so that equal contents are equal lists. The byte stores of the machine (`mem`, `extram`,
the cartridge, the boot overlay; R33, R34, R48) and the rows of the canvas (R39) are such stores. -/

namespace Sys2Proof.Machine

/-- The value at a key; an unlisted key reads as `dflt`. -/
def Sparse.get {α : Type} (dflt : α) : List (Nat × α) → Nat → α
  | [], _ => dflt
  | (k, v) :: rest, i => if i = k then v else Sparse.get dflt rest i

/-- The store without any pair at the key. -/
def Sparse.erase {α : Type} (m : List (Nat × α)) (i : Nat) : List (Nat × α) :=
  m.filter fun p => decide (p.1 ≠ i)

/-- A pair put in its place in the rising order of keys. -/
def Sparse.insert {α : Type} (i : Nat) (v : α) : List (Nat × α) → List (Nat × α)
  | [] => [(i, v)]
  | (k, w) :: rest => if i < k then (i, v) :: (k, w) :: rest else (k, w) :: Sparse.insert i v rest

/-- Writing a key; writing what an unlisted key reads as removes the pair. -/
def Sparse.set {α : Type} [DecidableEq α] (dflt : α) (m : List (Nat × α)) (i : Nat) (v : α) : List (Nat × α) :=
  if v = dflt then Sparse.erase m i else Sparse.insert i v (Sparse.erase m i)

/-- The canonical form: keys strictly rising, no pair whose value is the unlisted one. -/
abbrev Sparse.Canonical {α : Type} [DecidableEq α] (dflt : α) (m : List (Nat × α)) : Prop :=
  m.Pairwise (fun x y => x.1 < y.1) ∧ ∀ p ∈ m, p.2 ≠ dflt

/-- A byte store. -/
abbrev Memory := List Host.Cell

/-- What a byte that no list names reads as, in every byte store of the machine. DESIGN CHOICE (log entry 2): the spec takes
the contents after reset from `INIT` (R431) and fixes none; every image is still some list. -/
def unlistedByte : Byte := 0x00#8

/-- The byte at an index of a store. -/
def Memory.get (m : Memory) (i : Nat) : Byte := Sparse.get unlistedByte m i

/-- A store with one byte written. -/
def Memory.set (m : Memory) (i : Nat) (v : Byte) : Memory := Sparse.set unlistedByte m i v

/-- The canonical form of a byte store. -/
abbrev Memory.wf (m : Memory) : Prop := Sparse.Canonical unlistedByte m

end Sys2Proof.Machine
end

