-- ==== Sys2Proof/Syntax.lean ====
section
/-! DEFINITION. The instruction set as syntax: the operand tables of R124 and R125, and one constructor of `Instr` for each
row of spec/opcode_table.json. An immediate is an argument; registers, bit numbers, conditions and vectors are in the
constructor's name, as they are in the opcode. `At` stands for a memory operand: `ldAAtBc` is `LD A,(BC)`. -/

namespace Sys2Proof

/-- The 8-bit registers an opcode field can name (R124). -/
inductive Reg8 where
  | b
  | c
  | d
  | e
  | h
  | l
  | a
  deriving DecidableEq, Repr

/-- The 8-bit operand table `r[i]`: a register, or the byte HL points to (R124). -/
inductive Operand8 where
  | reg (r : Reg8)
  | atHl
  deriving DecidableEq, Repr

/-- The table `rp[i]` (R125). -/
inductive Pair where
  | bc
  | de
  | hl
  | sp
  deriving DecidableEq, Repr

/-- The table `rp2[i]` (R125). -/
inductive StackPair where
  | bc
  | de
  | hl
  | af
  deriving DecidableEq, Repr

/-- The condition table `cc[i]` (R125). -/
inductive Cond where
  | nz
  | z
  | nc
  | c
  deriving DecidableEq, Repr

/-- The operation table `alu[i]` (R125). -/
inductive AluOp where
  | add
  | adc
  | sub
  | sbc
  | and
  | xor
  | or
  | cp
  deriving DecidableEq, Repr

/-- The operation table `rot[i]` (R125). -/
inductive RotOp where
  | rlc
  | rrc
  | rl
  | rr
  | sla
  | sra
  | swap
  | srl
  deriving DecidableEq, Repr

/-- A 3-bit field: the bit number of BIT, RES and SET, and the `y` of RST (R126, R127). -/
inductive Index8 where
  | i0
  | i1
  | i2
  | i3
  | i4
  | i5
  | i6
  | i7
  deriving DecidableEq, Repr

/-- The five interrupt sources, in the order of their bits and of their priority (R385). -/
inductive InterruptSource where
  | vblank
  | lcdStatus
  | timer
  | serial
  | joypad
  deriving DecidableEq, Repr

/-- An opcode: a byte of the primary table, or `{0xCB, op2}` of the extended one (R120, R381). -/
inductive OpcodeValue where
  | primary (op : Byte)
  | extended (op2 : Byte)
  deriving DecidableEq, Repr

/-- The instructions, one constructor per row of spec/opcode_table.json. -/
inductive Instr where
  -- 8-bit loads (file 40_load8.md)
  | ldAtBcA
  | ldBN (n : Byte)
  | ldAAtBc
  | ldCN (n : Byte)
  | ldAtDeA
  | ldDN (n : Byte)
  | ldAAtDe
  | ldEN (n : Byte)
  | ldAtHlIncA
  | ldHN (n : Byte)
  | ldAAtHlInc
  | ldLN (n : Byte)
  | ldAtHlDecA
  | ldAtHlN (n : Byte)
  | ldAAtHlDec
  | ldAN (n : Byte)
  | ldBB
  | ldBC
  | ldBD
  | ldBE
  | ldBH
  | ldBL
  | ldBAtHl
  | ldBA
  | ldCB
  | ldCC
  | ldCD
  | ldCE
  | ldCH
  | ldCL
  | ldCAtHl
  | ldCA
  | ldDB
  | ldDC
  | ldDD
  | ldDE
  | ldDH
  | ldDL
  | ldDAtHl
  | ldDA
  | ldEB
  | ldEC
  | ldED
  | ldEE
  | ldEH
  | ldEL
  | ldEAtHl
  | ldEA
  | ldHB
  | ldHC
  | ldHD
  | ldHE
  | ldHH
  | ldHL
  | ldHAtHl
  | ldHA
  | ldLB
  | ldLC
  | ldLD
  | ldLE
  | ldLH
  | ldLL
  | ldLAtHl
  | ldLA
  | ldAtHlB
  | ldAtHlC
  | ldAtHlD
  | ldAtHlE
  | ldAtHlH
  | ldAtHlL
  | ldAtHlA
  | ldAB
  | ldAC
  | ldAD
  | ldAE
  | ldAH
  | ldAL
  | ldAAtHl
  | ldAA
  | ldhAtNA (n : Byte)
  | ldAtCA
  | ldAtNnA (nn : Word)
  | ldhAAtN (n : Byte)
  | ldAAtC
  | ldAAtNn (nn : Word)
  -- 16-bit loads (file 41_load16.md)
  | ldBcNn (nn : Word)
  | ldAtNnSp (nn : Word)
  | ldDeNn (nn : Word)
  | ldHlNn (nn : Word)
  | ldSpNn (nn : Word)
  | ldHlSpDisp (e : Byte)
  | ldSpHl
  -- 8-bit arithmetic and logic (file 42_alu8.md)
  | incB
  | decB
  | incC
  | decC
  | incD
  | decD
  | incE
  | decE
  | incH
  | decH
  | incL
  | decL
  | incAtHl
  | decAtHl
  | incA
  | decA
  | addAB
  | addAC
  | addAD
  | addAE
  | addAH
  | addAL
  | addAAtHl
  | addAA
  | adcAB
  | adcAC
  | adcAD
  | adcAE
  | adcAH
  | adcAL
  | adcAAtHl
  | adcAA
  | subB
  | subC
  | subD
  | subE
  | subH
  | subL
  | subAtHl
  | subA
  | sbcAB
  | sbcAC
  | sbcAD
  | sbcAE
  | sbcAH
  | sbcAL
  | sbcAAtHl
  | sbcAA
  | andB
  | andC
  | andD
  | andE
  | andH
  | andL
  | andAtHl
  | andA
  | xorB
  | xorC
  | xorD
  | xorE
  | xorH
  | xorL
  | xorAtHl
  | xorA
  | orB
  | orC
  | orD
  | orE
  | orH
  | orL
  | orAtHl
  | orA
  | cpB
  | cpC
  | cpD
  | cpE
  | cpH
  | cpL
  | cpAtHl
  | cpA
  | addAN (n : Byte)
  | adcAN (n : Byte)
  | subN (n : Byte)
  | sbcAN (n : Byte)
  | andN (n : Byte)
  | xorN (n : Byte)
  | orN (n : Byte)
  | cpN (n : Byte)
  -- 16-bit arithmetic (file 43_alu16.md)
  | incBc
  | addHlBc
  | decBc
  | incDe
  | addHlDe
  | decDe
  | incHl
  | addHlHl
  | decHl
  | incSp
  | addHlSp
  | decSp
  | addSpDisp (e : Byte)
  -- stack operations (file 44_stack.md)
  | popBc
  | pushBc
  | popDe
  | pushDe
  | popHl
  | pushHl
  | popAf
  | pushAf
  -- jumps, calls, returns (file 45_jump_call.md)
  | jrDisp (e : Byte)
  | jrNzDisp (e : Byte)
  | jrZDisp (e : Byte)
  | jrNcDisp (e : Byte)
  | jrCDisp (e : Byte)
  | retNz
  | jpNzNn (nn : Word)
  | jpNn (nn : Word)
  | callNzNn (nn : Word)
  | rst00
  | retZ
  | ret
  | jpZNn (nn : Word)
  | callZNn (nn : Word)
  | callNn (nn : Word)
  | rst08
  | retNc
  | jpNcNn (nn : Word)
  | callNcNn (nn : Word)
  | rst10
  | retC
  | reti
  | jpCNn (nn : Word)
  | callCNn (nn : Word)
  | rst18
  | rst20
  | jpAtHl
  | rst28
  | rst30
  | rst38
  -- accumulator rotates, DAA and flag operations (file 46_rotate_shift_bit.md, primary table)
  | rlca
  | rrca
  | rla
  | rra
  | daa
  | cpl
  | scf
  | ccf
  -- the extended table (file 46_rotate_shift_bit.md)
  | rlcB
  | rlcC
  | rlcD
  | rlcE
  | rlcH
  | rlcL
  | rlcAtHl
  | rlcA
  | rrcB
  | rrcC
  | rrcD
  | rrcE
  | rrcH
  | rrcL
  | rrcAtHl
  | rrcA
  | rlB
  | rlC
  | rlD
  | rlE
  | rlH
  | rlL
  | rlAtHl
  | rlA
  | rrB
  | rrC
  | rrD
  | rrE
  | rrH
  | rrL
  | rrAtHl
  | rrA
  | slaB
  | slaC
  | slaD
  | slaE
  | slaH
  | slaL
  | slaAtHl
  | slaA
  | sraB
  | sraC
  | sraD
  | sraE
  | sraH
  | sraL
  | sraAtHl
  | sraA
  | swapB
  | swapC
  | swapD
  | swapE
  | swapH
  | swapL
  | swapAtHl
  | swapA
  | srlB
  | srlC
  | srlD
  | srlE
  | srlH
  | srlL
  | srlAtHl
  | srlA
  | bit0B
  | bit0C
  | bit0D
  | bit0E
  | bit0H
  | bit0L
  | bit0AtHl
  | bit0A
  | bit1B
  | bit1C
  | bit1D
  | bit1E
  | bit1H
  | bit1L
  | bit1AtHl
  | bit1A
  | bit2B
  | bit2C
  | bit2D
  | bit2E
  | bit2H
  | bit2L
  | bit2AtHl
  | bit2A
  | bit3B
  | bit3C
  | bit3D
  | bit3E
  | bit3H
  | bit3L
  | bit3AtHl
  | bit3A
  | bit4B
  | bit4C
  | bit4D
  | bit4E
  | bit4H
  | bit4L
  | bit4AtHl
  | bit4A
  | bit5B
  | bit5C
  | bit5D
  | bit5E
  | bit5H
  | bit5L
  | bit5AtHl
  | bit5A
  | bit6B
  | bit6C
  | bit6D
  | bit6E
  | bit6H
  | bit6L
  | bit6AtHl
  | bit6A
  | bit7B
  | bit7C
  | bit7D
  | bit7E
  | bit7H
  | bit7L
  | bit7AtHl
  | bit7A
  | res0B
  | res0C
  | res0D
  | res0E
  | res0H
  | res0L
  | res0AtHl
  | res0A
  | res1B
  | res1C
  | res1D
  | res1E
  | res1H
  | res1L
  | res1AtHl
  | res1A
  | res2B
  | res2C
  | res2D
  | res2E
  | res2H
  | res2L
  | res2AtHl
  | res2A
  | res3B
  | res3C
  | res3D
  | res3E
  | res3H
  | res3L
  | res3AtHl
  | res3A
  | res4B
  | res4C
  | res4D
  | res4E
  | res4H
  | res4L
  | res4AtHl
  | res4A
  | res5B
  | res5C
  | res5D
  | res5E
  | res5H
  | res5L
  | res5AtHl
  | res5A
  | res6B
  | res6C
  | res6D
  | res6E
  | res6H
  | res6L
  | res6AtHl
  | res6A
  | res7B
  | res7C
  | res7D
  | res7E
  | res7H
  | res7L
  | res7AtHl
  | res7A
  | set0B
  | set0C
  | set0D
  | set0E
  | set0H
  | set0L
  | set0AtHl
  | set0A
  | set1B
  | set1C
  | set1D
  | set1E
  | set1H
  | set1L
  | set1AtHl
  | set1A
  | set2B
  | set2C
  | set2D
  | set2E
  | set2H
  | set2L
  | set2AtHl
  | set2A
  | set3B
  | set3C
  | set3D
  | set3E
  | set3H
  | set3L
  | set3AtHl
  | set3A
  | set4B
  | set4C
  | set4D
  | set4E
  | set4H
  | set4L
  | set4AtHl
  | set4A
  | set5B
  | set5C
  | set5D
  | set5E
  | set5H
  | set5L
  | set5AtHl
  | set5A
  | set6B
  | set6C
  | set6D
  | set6E
  | set6H
  | set6L
  | set6AtHl
  | set6A
  | set7B
  | set7C
  | set7D
  | set7E
  | set7H
  | set7L
  | set7AtHl
  | set7A
  -- CPU control, the extended-table entry byte and the illegal opcodes (file 47_cpu_control.md)
  | nop
  | stop
  | halt
  | prefixCb
  | illegalD3
  | illegalDB
  | illegalDD
  | illegalE3
  | illegalE4
  | illegalEB
  | illegalEC
  | illegalED
  | di
  | illegalF4
  | ei
  | illegalFC
  | illegalFD
  deriving DecidableEq, Repr

end Sys2Proof
end

