-- ==== Sys2Proof/Machine/State.lean ====
section
/-! DEFINITION. The state of the three units (file 10_state.md), as plain data, and the state right after reset (R50, R430).
INVENTORY.md lists every field with the rule that names it. -/

namespace Sys2Proof.Machine

/-- F, the flag register: "four independent booleans packed into F" (R24). The byte view (`Flags.toByte`) puts them at bits
7, 6, 5 and 4 and has a zero low nibble, so the invariant R51 (a) is built into this type. -/
structure Flags where
  z : Bool
  n : Bool
  h : Bool
  c : Bool
  deriving DecidableEq, Repr

/-- The fault record `IllegalInstruction(opcode, addr)` (R31, R381): the opcode byte or `{0xCB, op2}`, and its address. -/
structure IllegalInstruction where
  opcode : OpcodeValue
  addr : Word
  deriving DecidableEq, Repr

/-- `CART`: an immutable byte buffer of a given length (R2, R7). A byte the list does not name is `unlistedByte`. -/
structure Cartridge where
  len : Nat
  bytes : Memory
  deriving DecidableEq, Repr

/-- The bank-controller mode (R35, R65). -/
inductive MbcMode where
  | none
  | simple
  deriving DecidableEq, Repr

/-- The values derived from `CART` at load and constant afterwards (R8). -/
structure Header where
  title : List Byte
  cartType : Byte
  romCode : Byte
  ramCode : Byte
  romBanks : Nat
  ramBanks : Nat
  mbcMode : MbcMode
  deriving DecidableEq, Repr

/-- The callbacks a read hook can run: none exists in this hardware (R37, R89), so the type has no element and the read
registry is empty in every state. -/
inductive ReadHook where
  deriving DecidableEq, Repr

/-- The callbacks a write hook can run: the Video Timing Engine's (R89, R345). -/
inductive WriteHook where
  | lyReset
  deriving DecidableEq, Repr

/-- The Hook Registry: from an exact address to an ordered list of callbacks, separately for reads and writes (R37, R88). -/
structure HookRegistry where
  reads : List (Word × ReadHook)
  writes : List (Word × WriteHook)
  deriving DecidableEq, Repr

/-- The four phases of the Video Timing Engine (R38). -/
inductive PpuMode where
  | oam
  | xfer
  | hblank
  | vblank
  deriving DecidableEq, Repr

/-- A pixel: four bytes R, G, B, A (R39). -/
structure Pixel where
  r : Byte
  g : Byte
  b : Byte
  a : Byte
  deriving DecidableEq, Repr

/-- A canvas as its rows: row number and the row's pixels; a row no list names is blank (R39). -/
abbrev Canvas := List (Nat × List Pixel)

/-- What one tick returns to the host (R400, R402). -/
inductive TickResult where
  | running
  | stopRequested
  | faulted
  deriving DecidableEq, Repr

/-- The whole machine. The first group is the CPU Core (R20 to R31), the second the Address Bus (R33 to R37), the third what
is fixed before reset (R7, R8), the fourth the Video Timing Engine (R38, R39, R47), the last the tick's output (R402). -/
structure State where
  a : Byte
  f : Flags
  b : Byte
  c : Byte
  d : Byte
  e : Byte
  h : Byte
  l : Byte
  pc : Word
  sp : Word
  ime : Bool
  halted : Bool
  stopped : Bool
  breakNext : Bool
  fault : Option IllegalInstruction
  mem : Memory
  extram : Memory
  romBank : Nat
  ramBank : Nat
  ramEnabled : Bool
  overlayActive : Bool
  hooks : HookRegistry
  cart : Cartridge
  header : Header
  bootOverlay : Option Memory
  config : Config
  line : Nat
  mode : PpuMode
  clock : Nat
  canvas : Canvas
  frames : List Canvas
  tickResult : TickResult
  deriving DecidableEq, Repr

/-- Why the machine stops. -/
inductive Fault where
  /-- Raised by `step` in a state whose `fault` is latched, for every later tick: the run has ended (R31, R381, R450 (a)).
  Safe: nothing can be shown of what runs afterwards, and the spec lets nothing run. -/
  | illegalInstruction (record : IllegalInstruction)
  deriving DecidableEq, Repr

/-- Why the model gives no meaning. -/
inductive Refusal where
  /-- Raised by an arm of `exec` whose instruction has no meaning yet. Safe: nothing can be shown through it. No arm
  raises it: every instruction has a meaning. -/
  | notModelled (mnemonic : String)
  deriving DecidableEq, Repr

/-- What `exec` and `step` answer. -/
abbrev Result := Host.Outcome State Fault Refusal

/-- The one hook of the hardware: a write hook on 0xFF44, owned by the Video Timing Engine (R37, R89). -/
def HookRegistry.atReset : HookRegistry where
  reads := []
  writes := [(0xFF44#16, .lyReset)]

/-- DESIGN CHOICE (log entry 1): `CART` "must be supplied" (R7) and the spec gives none. The cartridge of the reset state is
the smallest one that loads: 32 KB of 0x00, so type 0x00, ROM code 0x00, RAM code 0x00 (R65 to R69). -/
def Cartridge.blank : Cartridge where
  len := 0x8000
  bytes := []

/-- What R8 and R65 to R67 derive from `Cartridge.blank`. -/
def Header.blank : Header where
  title := []
  cartType := 0x00#8
  romCode := 0x00#8
  ramCode := 0x00#8
  romBanks := 2
  ramBanks := 0
  mbcMode := .none

/-- The machine right after reset, with the parameters at their defaults: no boot overlay (R7), the blank cartridge (log
entry 1) and an `INIT` of zeros (log entry 2). `powerOn_blank` (Laws/Reset.lean) shows that it is what `powerOn` builds. -/
def State.reset : State where
  a := 0x00#8
  f := { z := false, n := false, h := false, c := false }
  b := 0x00#8
  c := 0x00#8
  d := 0x00#8
  e := 0x00#8
  h := 0x00#8
  l := 0x00#8
  pc := 0x0100#16
  sp := 0x0000#16
  ime := false
  halted := false
  stopped := false
  breakNext := false
  fault := none
  mem := []
  extram := []
  romBank := 1
  ramBank := 0
  ramEnabled := false
  overlayActive := false
  hooks := HookRegistry.atReset
  cart := Cartridge.blank
  header := Header.blank
  bootOverlay := none
  config := Config.default
  line := 0
  mode := .oam
  clock := 0
  canvas := []
  frames := []
  tickResult := .running

end Sys2Proof.Machine
end

