-- ==== Sys2Proof/Machine/Bus.lean ====
section
/-! DEFINITION. The Address Bus (file 20_memory.md): raw access, the address decode, cartridge banking, the boot overlay, the
hooks, and the word accesses made of byte accesses. Every function is total: "address decoding is total" (R61). -/

namespace Sys2Proof.Machine

/-- IF, the pending-request byte (R40, R41). -/
def ifAddr : Word := 0xFF0F#16
/-- IE, the enable byte (R40, R42). -/
def ieAddr : Word := 0xFFFF#16
/-- LCDC (R40, R43). -/
def lcdcAddr : Word := 0xFF40#16
/-- SCY (R40, R44). -/
def scyAddr : Word := 0xFF42#16
/-- SCX (R40, R44). -/
def scxAddr : Word := 0xFF43#16
/-- LY, the scanline readback (R40, R45). -/
def lyAddr : Word := 0xFF44#16
/-- BGP (R40, R46). -/
def bgpAddr : Word := 0xFF47#16

/-- `Alias(addr)` of R63: the index in `mem` of an address, the echo region folded onto work RAM. -/
def echoIndex (a : Word) : Nat :=
  if 0xE000 ≤ a.toNat ∧ a.toNat ≤ 0xFDFF then a.toNat - 0x2000 else a.toNat

/-- `RawRead(addr)` (R85). -/
def State.rawRead (s : State) (a : Word) : Byte := s.mem.get (echoIndex a)

/-- `RawWrite(addr, v)` (R85). -/
def State.rawWrite (s : State) (a : Word) (v : Byte) : State :=
  { s with mem := s.mem.set (echoIndex a) v }

/-- `ram_on` of R72. -/
def State.extRamOn (s : State) : Bool := s.ramEnabled && decide (0 < s.header.ramBanks)

/-- The index in `extram` of an address of 0xA000-0xBFFF (R34, R72). -/
def State.extRamIndex (s : State) (a : Word) : Nat := s.ramBank * 0x2000 + (a.toNat - 0xA000)

/-- `ExtRamRead(addr)` (R72). -/
def State.extRamRead (s : State) (a : Word) : Byte :=
  if s.extRamOn then s.extram.get (s.extRamIndex a) else s.config.extramOpenRead

/-- `ExtRamWrite(addr, v)` (R72). -/
def State.extRamWrite (s : State) (a : Word) (v : Byte) : State :=
  if s.extRamOn then { s with extram := s.extram.set (s.extRamIndex a) v } else s

/-- The index in `CART` of an address of the switchable window 0x4000-0x7FFF (R68). -/
def State.romIndex (s : State) (a : Word) : Nat := s.romBank * 0x4000 + (a.toNat - 0x4000)

/-- `MemRead(addr, 1)`, the hooked read (R70): overlay (R78), fixed bank (R64), switchable window (R68), external RAM (R72),
the backing array (R62, R63). A read changes nothing, because no read hook exists (R70). -/
def State.memRead (s : State) (a : Word) : Byte :=
  if a.toNat ≤ 0x00FF ∧ s.overlayActive = true then (s.bootOverlay.getD []).get a.toNat
  else if a.toNat ≤ 0x3FFF then s.cart.bytes.get a.toNat
  else if a.toNat ≤ 0x7FFF then s.cart.bytes.get (s.romIndex a)
  else if 0xA000 ≤ a.toNat ∧ a.toNat ≤ 0xBFFF then s.extRamRead a
  else s.rawRead a

/-- The search behind `bitsFor`: the least `k` not below the start with `n ≤ 2^k`. -/
def bitsForFrom : Nat → Nat → Nat → Nat
  | 0, k, _ => k
  | fuel + 1, k, n => if n ≤ 2 ^ k then k else bitsForFrom fuel (k + 1) n

/-- `bitsfor(n)` of R74: the least k with `2^k >= n`. -/
def bitsFor (n : Nat) : Nat := bitsForFrom n 0 n

/-- The bank a bank-select write of `v` chooses among `banks`: mask, then modulo; 0 where there is no bank (R74). -/
def bankSelect (v : Byte) (banks : Nat) : Nat :=
  if banks = 0 then 0 else (v.toNat &&& (2 ^ bitsFor banks - 1)) % banks

/-- `BankControl(addr, v)` (R74). -/
def State.bankControl (s : State) (a : Word) (v : Byte) : State :=
  match s.header.mbcMode with
  | .none => s
  | .simple =>
    if a.toNat ≤ 0x1FFF then { s with ramEnabled := decide (v.toNat % 16 = 0xA) }
    else if a.toNat ≤ 0x3FFF then { s with romBank := bankSelect v s.header.romBanks }
    else if a.toNat ≤ 0x5FFF then { s with ramBank := bankSelect v s.header.ramBanks }
    else s

/-- The action of a write hook. The Video Timing Engine's sets the scanline index to 0 and forces the stored value to 0,
`mode` and `clock` left as they are (R345). -/
def WriteHook.run (k : WriteHook) (s : State) : State :=
  match k with
  | .lyReset => { s with line := 0 }.rawWrite lyAddr 0x00#8

/-- Every write hook registered on exactly this address, in registration order (R88). -/
def State.fireWriteHooks (s : State) (a : Word) : State :=
  (s.hooks.writes.filter fun p => decide (p.1 = a)).foldl (fun t p => p.2.run t) s

/-- The store part of a hooked write (R73): bank control (R74, R76), external RAM (R72), the backing array (R62, R63). -/
def State.busStore (s : State) (a : Word) (v : Byte) : State :=
  if a.toNat ≤ 0x7FFF then s.bankControl a v
  else if 0xA000 ≤ a.toNat ∧ a.toNat ≤ 0xBFFF then s.extRamWrite a v
  else s.rawWrite a v

/-- `MemWrite(addr, 1, v)`, the hooked write: the store, and after it the hooks (R73, R88, R90). -/
def State.memWrite (s : State) (a : Word) (v : Byte) : State := (s.busStore a v).fireWriteHooks a

/-- `MemRead(addr, 2)`: the low byte at `addr`, the high byte at `(addr+1) mod 2^16` (R80). -/
def State.memRead16 (s : State) (a : Word) : Word := wordOf (s.memRead (a + 1)) (s.memRead a)

/-- `MemWrite(addr, 2, v)`: `v[7:0]` at `addr`, then `v[15:8]` at `(addr+1) mod 2^16` (R80). -/
def State.memWrite16 (s : State) (a : Word) (v : Word) : State :=
  (s.memWrite a (loByte v)).memWrite (a + 1) (hiByte v)

end Sys2Proof.Machine
end

