-- ==== Sys2Proof/Machine/Flags.lean ====
section
/-! DEFINITION. The byte view of F and every flag computation of the spec, each with the value computed beside it: the 8-bit
arithmetic and logic of file 42_alu8.md, the 16-bit sums of 41_load16.md and 43_alu16.md, the rotates, shifts and
bit tests of 46_rotate_shift_bit.md, DAA, CPL, SCF and CCF. -/

namespace Sys2Proof.Machine

/-- F as a byte: Z, N, H, C at bits 7, 6, 5, 4 and zeros below (R24). -/
def Flags.toByte (f : Flags) : Byte :=
  BitVec.ofBool f.z ++ BitVec.ofBool f.n ++ BitVec.ofBool f.h ++ BitVec.ofBool f.c ++ 0#4

/-- `F <- v & 0xF0` (R243). -/
def Flags.ofByte (v : Byte) : Flags where
  z := bitAt v 7
  n := bitAt v 6
  h := bitAt v 5
  c := bitAt v 4

/-- A result and the flags that go with it. -/
structure Computed where
  value : Byte
  flags : Flags
  deriving DecidableEq, Repr

/-- A 16-bit result and the flags that go with it. -/
structure Computed16 where
  value : Word
  flags : Flags
  deriving DecidableEq, Repr

/-- `A + x + c` of ADD (`c` = 0, R201) and ADC (R202). -/
def add8 (a x : Byte) (c : Bool) : Computed where
  value := BitVec.ofNat 8 (a.toNat + x.toNat + bit01 c)
  flags :=
    { z := decide ((a.toNat + x.toNat + bit01 c) % 256 = 0)
      n := false
      h := decide (a.toNat % 16 + x.toNat % 16 + bit01 c > 0xF)
      c := decide (a.toNat + x.toNat + bit01 c > 0xFF) }

/-- `A - x - c` of SUB and CP (`c` = 0, R203, R208) and SBC (R204); H and C are borrows. -/
def sub8 (a x : Byte) (c : Bool) : Computed where
  value := a - x - BitVec.ofNat 8 (bit01 c)
  flags :=
    { z := decide (a - x - BitVec.ofNat 8 (bit01 c) = 0#8)
      n := true
      h := decide (a.toNat % 16 < x.toNat % 16 + bit01 c)
      c := decide (a.toNat < x.toNat + bit01 c) }

/-- AND (R205). -/
def and8 (a x : Byte) : Computed where
  value := a &&& x
  flags := { z := decide (a &&& x = 0#8), n := false, h := true, c := false }

/-- XOR (R206). -/
def xor8 (a x : Byte) : Computed where
  value := a ^^^ x
  flags := { z := decide (a ^^^ x = 0#8), n := false, h := false, c := false }

/-- OR (R207). -/
def or8 (a x : Byte) : Computed where
  value := a ||| x
  flags := { z := decide (a ||| x = 0#8), n := false, h := false, c := false }

/-- The eight operations of R200 on A and the operand. CP keeps A (R208); ADC and SBC read the carry (R202, R204). -/
def aluCompute (op : AluOp) (a x : Byte) (f : Flags) : Computed :=
  match op with
  | .add => add8 a x false
  | .adc => add8 a x f.c
  | .sub => sub8 a x false
  | .sbc => sub8 a x f.c
  | .and => and8 a x
  | .xor => xor8 a x
  | .or => or8 a x
  | .cp => { value := a, flags := (sub8 a x false).flags }

/-- INC on a byte: Z, N = 0, H from the old low nibble; C kept (R209, R210). -/
def inc8 (v : Byte) (f : Flags) : Computed where
  value := v + 1#8
  flags := { z := decide (v + 1#8 = 0#8), n := false, h := decide (v.toNat % 16 = 0xF), c := f.c }

/-- DEC on a byte: Z, N = 1, H from the old low nibble; C kept (R211, R212). -/
def dec8 (v : Byte) (f : Flags) : Computed where
  value := v - 1#8
  flags := { z := decide (v - 1#8 = 0#8), n := true, h := decide (v.toNat % 16 = 0x0), c := f.c }

/-- ADD HL,rr: N = 0, H the carry out of bit 11, C the carry out of bit 15; Z kept (R230). -/
def addPairs (hl v : Word) (f : Flags) : Computed16 where
  value := hl + v
  flags :=
    { z := f.z
      n := false
      h := decide (hl.toNat % 0x1000 + v.toNat % 0x1000 > 0xFFF)
      c := decide (hl.toNat + v.toNat > 0xFFFF) }

/-- SP plus a signed byte, for LD HL,SP+e (R193) and ADD SP,e (R231): Z = N = 0, H and C from the unsigned sum of the low
byte of SP and the raw immediate byte. -/
def addDisp (sp : Word) (e : Byte) : Computed16 where
  value := sp + sext16 e
  flags :=
    { z := false
      n := false
      h := decide (sp.toNat % 16 + e.toNat % 16 > 0xF)
      c := decide (sp.toNat % 256 + e.toNat > 0xFF) }

/-- A rotated or shifted value with the bit shifted out: Z from the value, N = H = 0, C the bit (R270 to R282). -/
def shifted (w : Byte) (out : Bool) : Computed where
  value := w
  flags := { z := decide (w = 0#8), n := false, h := false, c := out }

/-- `rot[y]` of R125 on a byte, `cin` the carry before the instruction (R275 to R282). -/
def rotCompute (op : RotOp) (v : Byte) (cin : Bool) : Computed :=
  match op with
  | .rlc => shifted (shiftInLow v (bitAt v 7)) (bitAt v 7)
  | .rrc => shifted (shiftInHigh v (bitAt v 0)) (bitAt v 0)
  | .rl => shifted (shiftInLow v cin) (bitAt v 7)
  | .rr => shifted (shiftInHigh v cin) (bitAt v 0)
  | .sla => shifted (shiftInLow v false) (bitAt v 7)
  | .sra => shifted (shiftInHigh v (bitAt v 7)) (bitAt v 0)
  | .swap => shifted (swapNibbles v) false
  | .srl => shifted (shiftInHigh v false) (bitAt v 0)

/-- BIT: Z set when the tested bit is clear, N = 0, H = 1, C kept (R283). -/
def bitFlags (v : Byte) (b : Nat) (f : Flags) : Flags :=
  { f with z := !bitAt v b, n := false, h := true }

/-- Whether DAA applies the low correction (R286). -/
def daaLow (a : Byte) (f : Flags) : Bool :=
  if f.n then f.h else f.h || decide (a.toNat % 16 > 9)

/-- Whether DAA applies the high correction (R286). -/
def daaHigh (a : Byte) (f : Flags) : Bool :=
  if f.n then f.c else f.c || decide (a.toNat > 0x99)

/-- The correction `adj` of DAA (R286). -/
def daaAdjust (a : Byte) (f : Flags) : Byte :=
  (if daaLow a f then 0x06#8 else 0x00#8) ||| (if daaHigh a f then 0x60#8 else 0x00#8)

/-- DAA: Z from the result, N kept, H = 0, C the high correction (R286). -/
def daaCompute (a : Byte) (f : Flags) : Computed :=
  let w := if f.n then a - daaAdjust a f else a + daaAdjust a f
  { value := w, flags := { z := decide (w = 0#8), n := f.n, h := false, c := daaHigh a f } }

/-- CPL: N and H set, Z and C kept (R287). -/
def cplCompute (a : Byte) (f : Flags) : Computed where
  value := ~~~a
  flags := { f with n := true, h := true }

/-- SCF: N = H = 0, C = 1, Z kept (R288). -/
def scfFlags (f : Flags) : Flags := { f with n := false, h := false, c := true }

/-- CCF: N = H = 0, C inverted, Z kept (R289). -/
def ccfFlags (f : Flags) : Flags := { f with n := false, h := false, c := !f.c }

end Sys2Proof.Machine
end

