-- ==== Sys2Proof/Machine/Ops.lean ====
section
/-! DEFINITION. The named operations over registers, the program counter and the stack, and the exceptions: the illegal
instruction (R381), interrupt posting (R386), entry (R390) and return (R260, R392). -/

namespace Sys2Proof.Machine

/-- Reading an 8-bit register (R10). -/
def State.reg (s : State) (r : Reg8) : Byte :=
  match r with
  | .b => s.b
  | .c => s.c
  | .d => s.d
  | .e => s.e
  | .h => s.h
  | .l => s.l
  | .a => s.a

/-- `X <- v` for an 8-bit register (R10). -/
def State.setReg (s : State) (r : Reg8) (v : Byte) : State :=
  match r with
  | .b => { s with b := v }
  | .c => { s with c := v }
  | .d => { s with d := v }
  | .e => { s with e := v }
  | .h => { s with h := v }
  | .l => { s with l := v }
  | .a => { s with a := v }

/-- Reading `rp[i]`: the pair XY is `{X, Y}` (R22, R125). -/
def State.pair (s : State) (p : Pair) : Word :=
  match p with
  | .bc => wordOf s.b s.c
  | .de => wordOf s.d s.e
  | .hl => wordOf s.h s.l
  | .sp => s.sp

/-- Writing `rp[i]` (R22, R125). -/
def State.setPair (s : State) (p : Pair) (v : Word) : State :=
  match p with
  | .bc => { s with b := hiByte v, c := loByte v }
  | .de => { s with d := hiByte v, e := loByte v }
  | .hl => { s with h := hiByte v, l := loByte v }
  | .sp => { s with sp := v }

/-- Reading `rp2[i]` (R22, R125). -/
def State.stackPair (s : State) (p : StackPair) : Word :=
  match p with
  | .bc => wordOf s.b s.c
  | .de => wordOf s.d s.e
  | .hl => wordOf s.h s.l
  | .af => wordOf s.a s.f.toByte

/-- Writing `rp2[i]`; writing AF forces the low nibble of F to zero (R22, R243). -/
def State.setStackPair (s : State) (p : StackPair) (v : Word) : State :=
  match p with
  | .bc => { s with b := hiByte v, c := loByte v }
  | .de => { s with d := hiByte v, e := loByte v }
  | .hl => { s with h := hiByte v, l := loByte v }
  | .af => { s with a := hiByte v, f := Flags.ofByte (loByte v) }

/-- PC past the `len` bytes of the instruction, as its `Fetch8()` calls leave it (R11, R23). The meanings start from the
state whose PC is the address of the instruction's first byte. -/
def State.skip (s : State) (len : Nat) : State := { s with pc := s.pc + BitVec.ofNat 16 len }

/-- `Push16(v)`: SP down by 2, then the word at SP (R240). -/
def State.push16 (s : State) (v : Word) : State :=
  { s with sp := s.sp - 2#16 }.memWrite16 (s.sp - 2#16) v

/-- The value `Pop16()` returns: the word at SP (R240). -/
def State.popValue (s : State) : Word := s.memRead16 s.sp

/-- What `Pop16()` does to SP: up by 2, after the reads (R240). -/
def State.dropWord (s : State) : State := { s with sp := s.sp + 2#16 }

/-- How many bytes of a faulting opcode have been fetched (R381, R132). -/
def opcodeLength (op : OpcodeValue) : Nat :=
  match op with
  | .primary _ => 1
  | .extended _ => 2

/-- `raise IllegalInstruction(op, a0)`: the fault record latched, PC past the opcode, nothing else changed (R381, R316). -/
def State.raiseIllegal (s : State) (op : OpcodeValue) : State :=
  { s.skip (opcodeLength op) with fault := some { opcode := op, addr := s.pc } }

/-- The bit of IF and IE of a source (R385). -/
def sourceBit (k : InterruptSource) : Nat :=
  match k with
  | .vblank => 0
  | .lcdStatus => 1
  | .timer => 2
  | .serial => 3
  | .joypad => 4

/-- The vector of a source, `0x0040 + 8 * s` (R385, R390). -/
def sourceVector (k : InterruptSource) : Word := 0x0040#16 + BitVec.ofNat 16 (8 * sourceBit k)

/-- `PostInterrupt(s)`: the request bit of IF set, by raw access (R386). -/
def State.postInterrupt (s : State) (k : InterruptSource) : State :=
  s.rawWrite ifAddr (setBit (s.rawRead ifAddr) (sourceBit k))

/-- `Dispatch(s)`, interrupt entry, in the order of R390: acknowledge, end a halt, clear IME, push PC, jump to the vector. -/
def State.takeInterrupt (s : State) (k : InterruptSource) : State :=
  let acked := s.rawWrite ifAddr (clearBit (s.rawRead ifAddr) (sourceBit k))
  let pushed := { acked with halted := false, ime := false }.push16 s.pc
  { pushed with pc := sourceVector k }

/-- The return from interrupt: PC popped, IME set at once (R260, R392). -/
def State.returnFromInterrupt (s : State) : State :=
  { s.dropWord with pc := s.popValue, ime := true }

end Sys2Proof.Machine
end

