-- ==== Sys2Proof/Machine/Operands.lean ====
section
/-! DEFINITION. Every operand form: the 8-bit operand table `r[i]` with its `(HL)` entry (R124), the condition codes (R125,
R250), the 0xFF00 page (R161 to R164), and the shape of an instruction an implementation may leave stubbed (R135). -/

namespace Sys2Proof.Machine

/-- Reading `r[i]`: a register, or the byte HL points to (R124). -/
def State.operand (s : State) (o : Operand8) : Byte :=
  match o with
  | .reg r => s.reg r
  | .atHl => s.memRead (s.pair .hl)

/-- Writing `r[i]` (R124). -/
def State.setOperand (s : State) (o : Operand8) (v : Byte) : State :=
  match o with
  | .reg r => s.setReg r v
  | .atHl => s.memWrite (s.pair .hl) v

/-- The condition `cc[i]` on the flags (R125, R250 (b)). -/
def condHolds (k : Cond) (f : Flags) : Bool :=
  match k with
  | .nz => !f.z
  | .z => f.z
  | .nc => !f.c
  | .c => f.c

/-- `0xFF00 + zext_16(n)`: an address of the short-address page (R161 to R164). -/
def pageAddr (n : Byte) : Word := 0xFF00#16 + zext16 n

/-- An optional instruction: no handler when `STUB_OPTIONAL` is true (R135, R204, R284, R285). -/
def State.unlessStubbed (s : State) (op : OpcodeValue) (run : State → State) : State :=
  if s.config.stubOptional then s.raiseIllegal op else run s

end Sys2Proof.Machine
end

