-- ==== Sys2Proof/Machine/Alu16.lean ====
section
/-! DEFINITION. 16-bit arithmetic (file 43_alu16.md). -/

namespace Sys2Proof.Machine

/-- `HL <- (HL + rp[p]) mod 2^16` with its flags (R230). -/
def State.addHl (s : State) (p : Pair) : State :=
  { (s.skip 1).setPair .hl (addPairs (s.pair .hl) (s.pair p) s.f).value with
    f := (addPairs (s.pair .hl) (s.pair p) s.f).flags }

/-- `SP <- (SP + sext_16(e)) mod 2^16` with its flags (R231). -/
def State.addSp (s : State) (e : Byte) : State :=
  { s.skip 2 with sp := (addDisp s.sp e).value, f := (addDisp s.sp e).flags }

/-- `rp[p] <- (rp[p] + by) mod 2^16`, no flag changed (R232, R233). -/
def State.stepPair (s : State) (p : Pair) (by' : Word) : State := (s.skip 1).setPair p (s.pair p + by')

/-- INC BC (R232). -/
def execIncBc (s : State) : Result := .next (s.stepPair .bc 1#16)

/-- ADD HL,BC (R230). -/
def execAddHlBc (s : State) : Result := .next (s.addHl .bc)

/-- DEC BC (R233). -/
def execDecBc (s : State) : Result := .next (s.stepPair .bc (-1#16))

/-- INC DE (R232). -/
def execIncDe (s : State) : Result := .next (s.stepPair .de 1#16)

/-- ADD HL,DE (R230). -/
def execAddHlDe (s : State) : Result := .next (s.addHl .de)

/-- DEC DE (R233). -/
def execDecDe (s : State) : Result := .next (s.stepPair .de (-1#16))

/-- INC HL (R232). -/
def execIncHl (s : State) : Result := .next (s.stepPair .hl 1#16)

/-- ADD HL,HL (R230). -/
def execAddHlHl (s : State) : Result := .next (s.addHl .hl)

/-- DEC HL (R233). -/
def execDecHl (s : State) : Result := .next (s.stepPair .hl (-1#16))

/-- INC SP (R232). -/
def execIncSp (s : State) : Result := .next (s.stepPair .sp 1#16)

/-- ADD HL,SP (R230). -/
def execAddHlSp (s : State) : Result := .next (s.addHl .sp)

/-- DEC SP (R233). -/
def execDecSp (s : State) : Result := .next (s.stepPair .sp (-1#16))

/-- ADD SP,e (R231). -/
def execAddSpDisp (e : Byte) (s : State) : Result := .next (s.addSp e)

end Sys2Proof.Machine
end

