-- ==== Sys2Proof/Machine/Alu8.lean ====
section
/-! DEFINITION. 8-bit arithmetic and logic (file 42_alu8.md). -/

namespace Sys2Proof.Machine

/-- An operation of R200 on A and a value, by an instruction of `len` bytes: A and F from the computation. -/
def State.aluWith (s : State) (op : AluOp) (x : Byte) (len : Nat) : State :=
  { s.skip len with a := (aluCompute op s.a x s.f).value, f := (aluCompute op s.a x s.f).flags }

/-- The register and `(HL)` forms of R200: with `r = A` the operand is the old value of A. -/
def State.aluOperand (s : State) (op : AluOp) (o : Operand8) : State := s.aluWith op (s.operand o) 1

/-- The immediate form of R200. -/
def State.aluImm (s : State) (op : AluOp) (n : Byte) : State := s.aluWith op n 2

/-- INC on a register or `(HL)`: one read, one write, flags from the value written (R209, R210). -/
def State.incOperand (s : State) (o : Operand8) : State :=
  { (s.skip 1).setOperand o (inc8 (s.operand o) s.f).value with f := (inc8 (s.operand o) s.f).flags }

/-- DEC on a register or `(HL)`: one read, one write, flags from the value written (R211, R212). -/
def State.decOperand (s : State) (o : Operand8) : State :=
  { (s.skip 1).setOperand o (dec8 (s.operand o) s.f).value with f := (dec8 (s.operand o) s.f).flags }

/-- INC B (R209). -/
def execIncB (s : State) : Result := .next (s.incOperand (.reg .b))

/-- DEC B (R211). -/
def execDecB (s : State) : Result := .next (s.decOperand (.reg .b))

/-- INC C (R209). -/
def execIncC (s : State) : Result := .next (s.incOperand (.reg .c))

/-- DEC C (R211). -/
def execDecC (s : State) : Result := .next (s.decOperand (.reg .c))

/-- INC D (R209). -/
def execIncD (s : State) : Result := .next (s.incOperand (.reg .d))

/-- DEC D (R211). -/
def execDecD (s : State) : Result := .next (s.decOperand (.reg .d))

/-- INC E (R209). -/
def execIncE (s : State) : Result := .next (s.incOperand (.reg .e))

/-- DEC E (R211). -/
def execDecE (s : State) : Result := .next (s.decOperand (.reg .e))

/-- INC H (R209). -/
def execIncH (s : State) : Result := .next (s.incOperand (.reg .h))

/-- DEC H (R211). -/
def execDecH (s : State) : Result := .next (s.decOperand (.reg .h))

/-- INC L (R209). -/
def execIncL (s : State) : Result := .next (s.incOperand (.reg .l))

/-- DEC L (R211). -/
def execDecL (s : State) : Result := .next (s.decOperand (.reg .l))

/-- INC (HL) (R210). -/
def execIncAtHl (s : State) : Result := .next (s.incOperand .atHl)

/-- DEC (HL) (R212). -/
def execDecAtHl (s : State) : Result := .next (s.decOperand .atHl)

/-- INC A (R209). -/
def execIncA (s : State) : Result := .next (s.incOperand (.reg .a))

/-- DEC A (R211). -/
def execDecA (s : State) : Result := .next (s.decOperand (.reg .a))

/-- ADD A,B (R201). -/
def execAddAB (s : State) : Result := .next (s.aluOperand .add (.reg .b))

/-- ADD A,C (R201). -/
def execAddAC (s : State) : Result := .next (s.aluOperand .add (.reg .c))

/-- ADD A,D (R201). -/
def execAddAD (s : State) : Result := .next (s.aluOperand .add (.reg .d))

/-- ADD A,E (R201). -/
def execAddAE (s : State) : Result := .next (s.aluOperand .add (.reg .e))

/-- ADD A,H (R201). -/
def execAddAH (s : State) : Result := .next (s.aluOperand .add (.reg .h))

/-- ADD A,L (R201). -/
def execAddAL (s : State) : Result := .next (s.aluOperand .add (.reg .l))

/-- ADD A,(HL) (R201). -/
def execAddAAtHl (s : State) : Result := .next (s.aluOperand .add .atHl)

/-- ADD A,A (R201). -/
def execAddAA (s : State) : Result := .next (s.aluOperand .add (.reg .a))

/-- ADC A,B (R202). -/
def execAdcAB (s : State) : Result := .next (s.aluOperand .adc (.reg .b))

/-- ADC A,C (R202). -/
def execAdcAC (s : State) : Result := .next (s.aluOperand .adc (.reg .c))

/-- ADC A,D (R202). -/
def execAdcAD (s : State) : Result := .next (s.aluOperand .adc (.reg .d))

/-- ADC A,E (R202). -/
def execAdcAE (s : State) : Result := .next (s.aluOperand .adc (.reg .e))

/-- ADC A,H (R202). -/
def execAdcAH (s : State) : Result := .next (s.aluOperand .adc (.reg .h))

/-- ADC A,L (R202). -/
def execAdcAL (s : State) : Result := .next (s.aluOperand .adc (.reg .l))

/-- ADC A,(HL) (R202). -/
def execAdcAAtHl (s : State) : Result := .next (s.aluOperand .adc .atHl)

/-- ADC A,A (R202). -/
def execAdcAA (s : State) : Result := .next (s.aluOperand .adc (.reg .a))

/-- SUB B (R203). -/
def execSubB (s : State) : Result := .next (s.aluOperand .sub (.reg .b))

/-- SUB C (R203). -/
def execSubC (s : State) : Result := .next (s.aluOperand .sub (.reg .c))

/-- SUB D (R203). -/
def execSubD (s : State) : Result := .next (s.aluOperand .sub (.reg .d))

/-- SUB E (R203). -/
def execSubE (s : State) : Result := .next (s.aluOperand .sub (.reg .e))

/-- SUB H (R203). -/
def execSubH (s : State) : Result := .next (s.aluOperand .sub (.reg .h))

/-- SUB L (R203). -/
def execSubL (s : State) : Result := .next (s.aluOperand .sub (.reg .l))

/-- SUB (HL) (R203). -/
def execSubAtHl (s : State) : Result := .next (s.aluOperand .sub .atHl)

/-- SUB A (R203). -/
def execSubA (s : State) : Result := .next (s.aluOperand .sub (.reg .a))

/-- SBC A,B (R204). -/
def execSbcAB (s : State) : Result := .next (s.unlessStubbed (.primary 0x98#8) fun t => t.aluOperand .sbc (.reg .b))

/-- SBC A,C (R204). -/
def execSbcAC (s : State) : Result := .next (s.unlessStubbed (.primary 0x99#8) fun t => t.aluOperand .sbc (.reg .c))

/-- SBC A,D (R204). -/
def execSbcAD (s : State) : Result := .next (s.unlessStubbed (.primary 0x9A#8) fun t => t.aluOperand .sbc (.reg .d))

/-- SBC A,E (R204). -/
def execSbcAE (s : State) : Result := .next (s.unlessStubbed (.primary 0x9B#8) fun t => t.aluOperand .sbc (.reg .e))

/-- SBC A,H (R204). -/
def execSbcAH (s : State) : Result := .next (s.unlessStubbed (.primary 0x9C#8) fun t => t.aluOperand .sbc (.reg .h))

/-- SBC A,L (R204). -/
def execSbcAL (s : State) : Result := .next (s.unlessStubbed (.primary 0x9D#8) fun t => t.aluOperand .sbc (.reg .l))

/-- SBC A,(HL) (R204). -/
def execSbcAAtHl (s : State) : Result := .next (s.unlessStubbed (.primary 0x9E#8) fun t => t.aluOperand .sbc .atHl)

/-- SBC A,A (R204). -/
def execSbcAA (s : State) : Result := .next (s.unlessStubbed (.primary 0x9F#8) fun t => t.aluOperand .sbc (.reg .a))

/-- AND B (R205). -/
def execAndB (s : State) : Result := .next (s.aluOperand .and (.reg .b))

/-- AND C (R205). -/
def execAndC (s : State) : Result := .next (s.aluOperand .and (.reg .c))

/-- AND D (R205). -/
def execAndD (s : State) : Result := .next (s.aluOperand .and (.reg .d))

/-- AND E (R205). -/
def execAndE (s : State) : Result := .next (s.aluOperand .and (.reg .e))

/-- AND H (R205). -/
def execAndH (s : State) : Result := .next (s.aluOperand .and (.reg .h))

/-- AND L (R205). -/
def execAndL (s : State) : Result := .next (s.aluOperand .and (.reg .l))

/-- AND (HL) (R205). -/
def execAndAtHl (s : State) : Result := .next (s.aluOperand .and .atHl)

/-- AND A (R205). -/
def execAndA (s : State) : Result := .next (s.aluOperand .and (.reg .a))

/-- XOR B (R206). -/
def execXorB (s : State) : Result := .next (s.aluOperand .xor (.reg .b))

/-- XOR C (R206). -/
def execXorC (s : State) : Result := .next (s.aluOperand .xor (.reg .c))

/-- XOR D (R206). -/
def execXorD (s : State) : Result := .next (s.aluOperand .xor (.reg .d))

/-- XOR E (R206). -/
def execXorE (s : State) : Result := .next (s.aluOperand .xor (.reg .e))

/-- XOR H (R206). -/
def execXorH (s : State) : Result := .next (s.aluOperand .xor (.reg .h))

/-- XOR L (R206). -/
def execXorL (s : State) : Result := .next (s.aluOperand .xor (.reg .l))

/-- XOR (HL) (R206). -/
def execXorAtHl (s : State) : Result := .next (s.aluOperand .xor .atHl)

/-- XOR A (R206). -/
def execXorA (s : State) : Result := .next (s.aluOperand .xor (.reg .a))

/-- OR B (R207). -/
def execOrB (s : State) : Result := .next (s.aluOperand .or (.reg .b))

/-- OR C (R207). -/
def execOrC (s : State) : Result := .next (s.aluOperand .or (.reg .c))

/-- OR D (R207). -/
def execOrD (s : State) : Result := .next (s.aluOperand .or (.reg .d))

/-- OR E (R207). -/
def execOrE (s : State) : Result := .next (s.aluOperand .or (.reg .e))

/-- OR H (R207). -/
def execOrH (s : State) : Result := .next (s.aluOperand .or (.reg .h))

/-- OR L (R207). -/
def execOrL (s : State) : Result := .next (s.aluOperand .or (.reg .l))

/-- OR (HL) (R207). -/
def execOrAtHl (s : State) : Result := .next (s.aluOperand .or .atHl)

/-- OR A (R207). -/
def execOrA (s : State) : Result := .next (s.aluOperand .or (.reg .a))

/-- CP B (R208). -/
def execCpB (s : State) : Result := .next (s.aluOperand .cp (.reg .b))

/-- CP C (R208). -/
def execCpC (s : State) : Result := .next (s.aluOperand .cp (.reg .c))

/-- CP D (R208). -/
def execCpD (s : State) : Result := .next (s.aluOperand .cp (.reg .d))

/-- CP E (R208). -/
def execCpE (s : State) : Result := .next (s.aluOperand .cp (.reg .e))

/-- CP H (R208). -/
def execCpH (s : State) : Result := .next (s.aluOperand .cp (.reg .h))

/-- CP L (R208). -/
def execCpL (s : State) : Result := .next (s.aluOperand .cp (.reg .l))

/-- CP (HL) (R208). -/
def execCpAtHl (s : State) : Result := .next (s.aluOperand .cp .atHl)

/-- CP A (R208). -/
def execCpA (s : State) : Result := .next (s.aluOperand .cp (.reg .a))

/-- ADD A,n (R201). -/
def execAddAN (n : Byte) (s : State) : Result := .next (s.aluImm .add n)

/-- ADC A,n (R202). -/
def execAdcAN (n : Byte) (s : State) : Result := .next (s.aluImm .adc n)

/-- SUB n (R203). -/
def execSubN (n : Byte) (s : State) : Result := .next (s.aluImm .sub n)

/-- SBC A,n (R204). -/
def execSbcAN (n : Byte) (s : State) : Result := .next (s.unlessStubbed (.primary 0xDE#8) fun t => t.aluImm .sbc n)

/-- AND n (R205). -/
def execAndN (n : Byte) (s : State) : Result := .next (s.aluImm .and n)

/-- XOR n (R206). -/
def execXorN (n : Byte) (s : State) : Result := .next (s.aluImm .xor n)

/-- OR n (R207). -/
def execOrN (n : Byte) (s : State) : Result := .next (s.aluImm .or n)

/-- CP n (R208). -/
def execCpN (n : Byte) (s : State) : Result := .next (s.aluImm .cp n)

end Sys2Proof.Machine
end

