-- ==== Sys2Proof/Decode.lean ====
section
/-! DEFINITION. Decoding and encoding (file 30_encoding.md). First the regular rows of R126 as functions from operands to
constructors; then the primary table of R128, one row a high nibble, and the extended table of R129; the decoder, total on
any bytes; the encoder; and the reading of a word numbered as spec/opcode_table.json numbers it. -/

namespace Sys2Proof

/-- `LD r,r'` (R150). -/
def Instr.ldRR (dst src : Reg8) : Instr :=
  match dst, src with
  | .b, .b => .ldBB
  | .b, .c => .ldBC
  | .b, .d => .ldBD
  | .b, .e => .ldBE
  | .b, .h => .ldBH
  | .b, .l => .ldBL
  | .b, .a => .ldBA
  | .c, .b => .ldCB
  | .c, .c => .ldCC
  | .c, .d => .ldCD
  | .c, .e => .ldCE
  | .c, .h => .ldCH
  | .c, .l => .ldCL
  | .c, .a => .ldCA
  | .d, .b => .ldDB
  | .d, .c => .ldDC
  | .d, .d => .ldDD
  | .d, .e => .ldDE
  | .d, .h => .ldDH
  | .d, .l => .ldDL
  | .d, .a => .ldDA
  | .e, .b => .ldEB
  | .e, .c => .ldEC
  | .e, .d => .ldED
  | .e, .e => .ldEE
  | .e, .h => .ldEH
  | .e, .l => .ldEL
  | .e, .a => .ldEA
  | .h, .b => .ldHB
  | .h, .c => .ldHC
  | .h, .d => .ldHD
  | .h, .e => .ldHE
  | .h, .h => .ldHH
  | .h, .l => .ldHL
  | .h, .a => .ldHA
  | .l, .b => .ldLB
  | .l, .c => .ldLC
  | .l, .d => .ldLD
  | .l, .e => .ldLE
  | .l, .h => .ldLH
  | .l, .l => .ldLL
  | .l, .a => .ldLA
  | .a, .b => .ldAB
  | .a, .c => .ldAC
  | .a, .d => .ldAD
  | .a, .e => .ldAE
  | .a, .h => .ldAH
  | .a, .l => .ldAL
  | .a, .a => .ldAA

/-- `LD r,n` (R151). -/
def Instr.ldRN (dst : Reg8) (n : Byte) : Instr :=
  match dst with
  | .b => .ldBN n
  | .c => .ldCN n
  | .d => .ldDN n
  | .e => .ldEN n
  | .h => .ldHN n
  | .l => .ldLN n
  | .a => .ldAN n

/-- `LD r,(HL)` (R152). -/
def Instr.ldRHl (dst : Reg8) : Instr :=
  match dst with
  | .b => .ldBAtHl
  | .c => .ldCAtHl
  | .d => .ldDAtHl
  | .e => .ldEAtHl
  | .h => .ldHAtHl
  | .l => .ldLAtHl
  | .a => .ldAAtHl

/-- `LD (HL),r` (R153). -/
def Instr.ldHlR (src : Reg8) : Instr :=
  match src with
  | .b => .ldAtHlB
  | .c => .ldAtHlC
  | .d => .ldAtHlD
  | .e => .ldAtHlE
  | .h => .ldAtHlH
  | .l => .ldAtHlL
  | .a => .ldAtHlA

/-- `LD rr,nn` (R190). -/
def Instr.ldPairNn (p : Pair) (nn : Word) : Instr :=
  match p with
  | .bc => .ldBcNn nn
  | .de => .ldDeNn nn
  | .hl => .ldHlNn nn
  | .sp => .ldSpNn nn

/-- `op A,r` and `op A,(HL)` for the eight operations (R200). -/
def Instr.aluR (op : AluOp) (o : Operand8) : Instr :=
  match op, o with
  | .add, .reg .b => .addAB
  | .add, .reg .c => .addAC
  | .add, .reg .d => .addAD
  | .add, .reg .e => .addAE
  | .add, .reg .h => .addAH
  | .add, .reg .l => .addAL
  | .add, .atHl => .addAAtHl
  | .add, .reg .a => .addAA
  | .adc, .reg .b => .adcAB
  | .adc, .reg .c => .adcAC
  | .adc, .reg .d => .adcAD
  | .adc, .reg .e => .adcAE
  | .adc, .reg .h => .adcAH
  | .adc, .reg .l => .adcAL
  | .adc, .atHl => .adcAAtHl
  | .adc, .reg .a => .adcAA
  | .sub, .reg .b => .subB
  | .sub, .reg .c => .subC
  | .sub, .reg .d => .subD
  | .sub, .reg .e => .subE
  | .sub, .reg .h => .subH
  | .sub, .reg .l => .subL
  | .sub, .atHl => .subAtHl
  | .sub, .reg .a => .subA
  | .sbc, .reg .b => .sbcAB
  | .sbc, .reg .c => .sbcAC
  | .sbc, .reg .d => .sbcAD
  | .sbc, .reg .e => .sbcAE
  | .sbc, .reg .h => .sbcAH
  | .sbc, .reg .l => .sbcAL
  | .sbc, .atHl => .sbcAAtHl
  | .sbc, .reg .a => .sbcAA
  | .and, .reg .b => .andB
  | .and, .reg .c => .andC
  | .and, .reg .d => .andD
  | .and, .reg .e => .andE
  | .and, .reg .h => .andH
  | .and, .reg .l => .andL
  | .and, .atHl => .andAtHl
  | .and, .reg .a => .andA
  | .xor, .reg .b => .xorB
  | .xor, .reg .c => .xorC
  | .xor, .reg .d => .xorD
  | .xor, .reg .e => .xorE
  | .xor, .reg .h => .xorH
  | .xor, .reg .l => .xorL
  | .xor, .atHl => .xorAtHl
  | .xor, .reg .a => .xorA
  | .or, .reg .b => .orB
  | .or, .reg .c => .orC
  | .or, .reg .d => .orD
  | .or, .reg .e => .orE
  | .or, .reg .h => .orH
  | .or, .reg .l => .orL
  | .or, .atHl => .orAtHl
  | .or, .reg .a => .orA
  | .cp, .reg .b => .cpB
  | .cp, .reg .c => .cpC
  | .cp, .reg .d => .cpD
  | .cp, .reg .e => .cpE
  | .cp, .reg .h => .cpH
  | .cp, .reg .l => .cpL
  | .cp, .atHl => .cpAtHl
  | .cp, .reg .a => .cpA

/-- `op A,n` for the eight operations (R200). -/
def Instr.aluN (op : AluOp) (n : Byte) : Instr :=
  match op with
  | .add => .addAN n
  | .adc => .adcAN n
  | .sub => .subN n
  | .sbc => .sbcAN n
  | .and => .andN n
  | .xor => .xorN n
  | .or => .orN n
  | .cp => .cpN n

/-- `INC r` and `INC (HL)` (R209, R210). -/
def Instr.incR (o : Operand8) : Instr :=
  match o with
  | .reg .b => .incB
  | .reg .c => .incC
  | .reg .d => .incD
  | .reg .e => .incE
  | .reg .h => .incH
  | .reg .l => .incL
  | .atHl => .incAtHl
  | .reg .a => .incA

/-- `DEC r` and `DEC (HL)` (R211, R212). -/
def Instr.decR (o : Operand8) : Instr :=
  match o with
  | .reg .b => .decB
  | .reg .c => .decC
  | .reg .d => .decD
  | .reg .e => .decE
  | .reg .h => .decH
  | .reg .l => .decL
  | .atHl => .decAtHl
  | .reg .a => .decA

/-- `ADD HL,rr` (R230). -/
def Instr.addHlPair (p : Pair) : Instr :=
  match p with
  | .bc => .addHlBc
  | .de => .addHlDe
  | .hl => .addHlHl
  | .sp => .addHlSp

/-- `INC rr` (R232). -/
def Instr.incPair (p : Pair) : Instr :=
  match p with
  | .bc => .incBc
  | .de => .incDe
  | .hl => .incHl
  | .sp => .incSp

/-- `DEC rr` (R233). -/
def Instr.decPair (p : Pair) : Instr :=
  match p with
  | .bc => .decBc
  | .de => .decDe
  | .hl => .decHl
  | .sp => .decSp

/-- `PUSH rr` (R241). -/
def Instr.pushPair (p : StackPair) : Instr :=
  match p with
  | .bc => .pushBc
  | .de => .pushDe
  | .hl => .pushHl
  | .af => .pushAf

/-- `POP rr` and `POP AF` (R242, R243). -/
def Instr.popPair (p : StackPair) : Instr :=
  match p with
  | .bc => .popBc
  | .de => .popDe
  | .hl => .popHl
  | .af => .popAf

/-- `JP cc,nn` (R252). -/
def Instr.jpCc (k : Cond) (nn : Word) : Instr :=
  match k with
  | .nz => .jpNzNn nn
  | .z => .jpZNn nn
  | .nc => .jpNcNn nn
  | .c => .jpCNn nn

/-- `JR cc,e` (R255). -/
def Instr.jrCc (k : Cond) (e : Byte) : Instr :=
  match k with
  | .nz => .jrNzDisp e
  | .z => .jrZDisp e
  | .nc => .jrNcDisp e
  | .c => .jrCDisp e

/-- `CALL cc,nn` (R257). -/
def Instr.callCc (k : Cond) (nn : Word) : Instr :=
  match k with
  | .nz => .callNzNn nn
  | .z => .callZNn nn
  | .nc => .callNcNn nn
  | .c => .callCNn nn

/-- `RET cc` (R259). -/
def Instr.retCc (k : Cond) : Instr :=
  match k with
  | .nz => .retNz
  | .z => .retZ
  | .nc => .retNc
  | .c => .retC

/-- `RST t`, `t = 8 * y` (R261). -/
def Instr.rstAt (y : Index8) : Instr :=
  match y with
  | .i0 => .rst00
  | .i1 => .rst08
  | .i2 => .rst10
  | .i3 => .rst18
  | .i4 => .rst20
  | .i5 => .rst28
  | .i6 => .rst30
  | .i7 => .rst38

/-- `rot[y] r[z]` (R129, R275 to R282). -/
def Instr.rotR (op : RotOp) (o : Operand8) : Instr :=
  match op, o with
  | .rlc, .reg .b => .rlcB
  | .rlc, .reg .c => .rlcC
  | .rlc, .reg .d => .rlcD
  | .rlc, .reg .e => .rlcE
  | .rlc, .reg .h => .rlcH
  | .rlc, .reg .l => .rlcL
  | .rlc, .atHl => .rlcAtHl
  | .rlc, .reg .a => .rlcA
  | .rrc, .reg .b => .rrcB
  | .rrc, .reg .c => .rrcC
  | .rrc, .reg .d => .rrcD
  | .rrc, .reg .e => .rrcE
  | .rrc, .reg .h => .rrcH
  | .rrc, .reg .l => .rrcL
  | .rrc, .atHl => .rrcAtHl
  | .rrc, .reg .a => .rrcA
  | .rl, .reg .b => .rlB
  | .rl, .reg .c => .rlC
  | .rl, .reg .d => .rlD
  | .rl, .reg .e => .rlE
  | .rl, .reg .h => .rlH
  | .rl, .reg .l => .rlL
  | .rl, .atHl => .rlAtHl
  | .rl, .reg .a => .rlA
  | .rr, .reg .b => .rrB
  | .rr, .reg .c => .rrC
  | .rr, .reg .d => .rrD
  | .rr, .reg .e => .rrE
  | .rr, .reg .h => .rrH
  | .rr, .reg .l => .rrL
  | .rr, .atHl => .rrAtHl
  | .rr, .reg .a => .rrA
  | .sla, .reg .b => .slaB
  | .sla, .reg .c => .slaC
  | .sla, .reg .d => .slaD
  | .sla, .reg .e => .slaE
  | .sla, .reg .h => .slaH
  | .sla, .reg .l => .slaL
  | .sla, .atHl => .slaAtHl
  | .sla, .reg .a => .slaA
  | .sra, .reg .b => .sraB
  | .sra, .reg .c => .sraC
  | .sra, .reg .d => .sraD
  | .sra, .reg .e => .sraE
  | .sra, .reg .h => .sraH
  | .sra, .reg .l => .sraL
  | .sra, .atHl => .sraAtHl
  | .sra, .reg .a => .sraA
  | .swap, .reg .b => .swapB
  | .swap, .reg .c => .swapC
  | .swap, .reg .d => .swapD
  | .swap, .reg .e => .swapE
  | .swap, .reg .h => .swapH
  | .swap, .reg .l => .swapL
  | .swap, .atHl => .swapAtHl
  | .swap, .reg .a => .swapA
  | .srl, .reg .b => .srlB
  | .srl, .reg .c => .srlC
  | .srl, .reg .d => .srlD
  | .srl, .reg .e => .srlE
  | .srl, .reg .h => .srlH
  | .srl, .reg .l => .srlL
  | .srl, .atHl => .srlAtHl
  | .srl, .reg .a => .srlA

/-- `BIT b,r[z]` (R129, R283). -/
def Instr.bitR (b : Index8) (o : Operand8) : Instr :=
  match b, o with
  | .i0, .reg .b => .bit0B
  | .i0, .reg .c => .bit0C
  | .i0, .reg .d => .bit0D
  | .i0, .reg .e => .bit0E
  | .i0, .reg .h => .bit0H
  | .i0, .reg .l => .bit0L
  | .i0, .atHl => .bit0AtHl
  | .i0, .reg .a => .bit0A
  | .i1, .reg .b => .bit1B
  | .i1, .reg .c => .bit1C
  | .i1, .reg .d => .bit1D
  | .i1, .reg .e => .bit1E
  | .i1, .reg .h => .bit1H
  | .i1, .reg .l => .bit1L
  | .i1, .atHl => .bit1AtHl
  | .i1, .reg .a => .bit1A
  | .i2, .reg .b => .bit2B
  | .i2, .reg .c => .bit2C
  | .i2, .reg .d => .bit2D
  | .i2, .reg .e => .bit2E
  | .i2, .reg .h => .bit2H
  | .i2, .reg .l => .bit2L
  | .i2, .atHl => .bit2AtHl
  | .i2, .reg .a => .bit2A
  | .i3, .reg .b => .bit3B
  | .i3, .reg .c => .bit3C
  | .i3, .reg .d => .bit3D
  | .i3, .reg .e => .bit3E
  | .i3, .reg .h => .bit3H
  | .i3, .reg .l => .bit3L
  | .i3, .atHl => .bit3AtHl
  | .i3, .reg .a => .bit3A
  | .i4, .reg .b => .bit4B
  | .i4, .reg .c => .bit4C
  | .i4, .reg .d => .bit4D
  | .i4, .reg .e => .bit4E
  | .i4, .reg .h => .bit4H
  | .i4, .reg .l => .bit4L
  | .i4, .atHl => .bit4AtHl
  | .i4, .reg .a => .bit4A
  | .i5, .reg .b => .bit5B
  | .i5, .reg .c => .bit5C
  | .i5, .reg .d => .bit5D
  | .i5, .reg .e => .bit5E
  | .i5, .reg .h => .bit5H
  | .i5, .reg .l => .bit5L
  | .i5, .atHl => .bit5AtHl
  | .i5, .reg .a => .bit5A
  | .i6, .reg .b => .bit6B
  | .i6, .reg .c => .bit6C
  | .i6, .reg .d => .bit6D
  | .i6, .reg .e => .bit6E
  | .i6, .reg .h => .bit6H
  | .i6, .reg .l => .bit6L
  | .i6, .atHl => .bit6AtHl
  | .i6, .reg .a => .bit6A
  | .i7, .reg .b => .bit7B
  | .i7, .reg .c => .bit7C
  | .i7, .reg .d => .bit7D
  | .i7, .reg .e => .bit7E
  | .i7, .reg .h => .bit7H
  | .i7, .reg .l => .bit7L
  | .i7, .atHl => .bit7AtHl
  | .i7, .reg .a => .bit7A

/-- `RES b,r[z]` (R129, R284). -/
def Instr.resR (b : Index8) (o : Operand8) : Instr :=
  match b, o with
  | .i0, .reg .b => .res0B
  | .i0, .reg .c => .res0C
  | .i0, .reg .d => .res0D
  | .i0, .reg .e => .res0E
  | .i0, .reg .h => .res0H
  | .i0, .reg .l => .res0L
  | .i0, .atHl => .res0AtHl
  | .i0, .reg .a => .res0A
  | .i1, .reg .b => .res1B
  | .i1, .reg .c => .res1C
  | .i1, .reg .d => .res1D
  | .i1, .reg .e => .res1E
  | .i1, .reg .h => .res1H
  | .i1, .reg .l => .res1L
  | .i1, .atHl => .res1AtHl
  | .i1, .reg .a => .res1A
  | .i2, .reg .b => .res2B
  | .i2, .reg .c => .res2C
  | .i2, .reg .d => .res2D
  | .i2, .reg .e => .res2E
  | .i2, .reg .h => .res2H
  | .i2, .reg .l => .res2L
  | .i2, .atHl => .res2AtHl
  | .i2, .reg .a => .res2A
  | .i3, .reg .b => .res3B
  | .i3, .reg .c => .res3C
  | .i3, .reg .d => .res3D
  | .i3, .reg .e => .res3E
  | .i3, .reg .h => .res3H
  | .i3, .reg .l => .res3L
  | .i3, .atHl => .res3AtHl
  | .i3, .reg .a => .res3A
  | .i4, .reg .b => .res4B
  | .i4, .reg .c => .res4C
  | .i4, .reg .d => .res4D
  | .i4, .reg .e => .res4E
  | .i4, .reg .h => .res4H
  | .i4, .reg .l => .res4L
  | .i4, .atHl => .res4AtHl
  | .i4, .reg .a => .res4A
  | .i5, .reg .b => .res5B
  | .i5, .reg .c => .res5C
  | .i5, .reg .d => .res5D
  | .i5, .reg .e => .res5E
  | .i5, .reg .h => .res5H
  | .i5, .reg .l => .res5L
  | .i5, .atHl => .res5AtHl
  | .i5, .reg .a => .res5A
  | .i6, .reg .b => .res6B
  | .i6, .reg .c => .res6C
  | .i6, .reg .d => .res6D
  | .i6, .reg .e => .res6E
  | .i6, .reg .h => .res6H
  | .i6, .reg .l => .res6L
  | .i6, .atHl => .res6AtHl
  | .i6, .reg .a => .res6A
  | .i7, .reg .b => .res7B
  | .i7, .reg .c => .res7C
  | .i7, .reg .d => .res7D
  | .i7, .reg .e => .res7E
  | .i7, .reg .h => .res7H
  | .i7, .reg .l => .res7L
  | .i7, .atHl => .res7AtHl
  | .i7, .reg .a => .res7A

/-- `SET b,r[z]` (R129, R285). -/
def Instr.setR (b : Index8) (o : Operand8) : Instr :=
  match b, o with
  | .i0, .reg .b => .set0B
  | .i0, .reg .c => .set0C
  | .i0, .reg .d => .set0D
  | .i0, .reg .e => .set0E
  | .i0, .reg .h => .set0H
  | .i0, .reg .l => .set0L
  | .i0, .atHl => .set0AtHl
  | .i0, .reg .a => .set0A
  | .i1, .reg .b => .set1B
  | .i1, .reg .c => .set1C
  | .i1, .reg .d => .set1D
  | .i1, .reg .e => .set1E
  | .i1, .reg .h => .set1H
  | .i1, .reg .l => .set1L
  | .i1, .atHl => .set1AtHl
  | .i1, .reg .a => .set1A
  | .i2, .reg .b => .set2B
  | .i2, .reg .c => .set2C
  | .i2, .reg .d => .set2D
  | .i2, .reg .e => .set2E
  | .i2, .reg .h => .set2H
  | .i2, .reg .l => .set2L
  | .i2, .atHl => .set2AtHl
  | .i2, .reg .a => .set2A
  | .i3, .reg .b => .set3B
  | .i3, .reg .c => .set3C
  | .i3, .reg .d => .set3D
  | .i3, .reg .e => .set3E
  | .i3, .reg .h => .set3H
  | .i3, .reg .l => .set3L
  | .i3, .atHl => .set3AtHl
  | .i3, .reg .a => .set3A
  | .i4, .reg .b => .set4B
  | .i4, .reg .c => .set4C
  | .i4, .reg .d => .set4D
  | .i4, .reg .e => .set4E
  | .i4, .reg .h => .set4H
  | .i4, .reg .l => .set4L
  | .i4, .atHl => .set4AtHl
  | .i4, .reg .a => .set4A
  | .i5, .reg .b => .set5B
  | .i5, .reg .c => .set5C
  | .i5, .reg .d => .set5D
  | .i5, .reg .e => .set5E
  | .i5, .reg .h => .set5H
  | .i5, .reg .l => .set5L
  | .i5, .atHl => .set5AtHl
  | .i5, .reg .a => .set5A
  | .i6, .reg .b => .set6B
  | .i6, .reg .c => .set6C
  | .i6, .reg .d => .set6D
  | .i6, .reg .e => .set6E
  | .i6, .reg .h => .set6H
  | .i6, .reg .l => .set6L
  | .i6, .atHl => .set6AtHl
  | .i6, .reg .a => .set6A
  | .i7, .reg .b => .set7B
  | .i7, .reg .c => .set7C
  | .i7, .reg .d => .set7D
  | .i7, .reg .e => .set7E
  | .i7, .reg .h => .set7H
  | .i7, .reg .l => .set7L
  | .i7, .atHl => .set7AtHl
  | .i7, .reg .a => .set7A

/-- The eleven illegal primary opcodes with their values (R130). -/
def illegalOpcodes : List (Instr × Byte) :=
  [(.illegalD3, 0xD3#8), (.illegalDB, 0xDB#8), (.illegalDD, 0xDD#8), (.illegalE3, 0xE3#8),
   (.illegalE4, 0xE4#8), (.illegalEB, 0xEB#8), (.illegalEC, 0xEC#8), (.illegalED, 0xED#8),
   (.illegalF4, 0xF4#8), (.illegalFC, 0xFC#8), (.illegalFD, 0xFD#8)]

/-- `r[i]` from its 3-bit field (R124). -/
def Operand8.ofField (i : Nat) : Operand8 :=
  match i with
  | 0 => .reg .b
  | 1 => .reg .c
  | 2 => .reg .d
  | 3 => .reg .e
  | 4 => .reg .h
  | 5 => .reg .l
  | 6 => .atHl
  | _ => .reg .a

/-- `rot[i]` from its 3-bit field (R125). -/
def RotOp.ofField (i : Nat) : RotOp :=
  match i with
  | 0 => .rlc
  | 1 => .rrc
  | 2 => .rl
  | 3 => .rr
  | 4 => .sla
  | 5 => .sra
  | 6 => .swap
  | _ => .srl

/-- A 3-bit field as an index (R126). -/
def Index8.ofField (i : Nat) : Index8 :=
  match i with
  | 0 => .i0
  | 1 => .i1
  | 2 => .i2
  | 3 => .i3
  | 4 => .i4
  | 5 => .i5
  | 6 => .i6
  | _ => .i7

/-- The number an index stands for. -/
def Index8.toNat (i : Index8) : Nat :=
  match i with
  | .i0 => 0
  | .i1 => 1
  | .i2 => 2
  | .i3 => 3
  | .i4 => 4
  | .i5 => 5
  | .i6 => 6
  | .i7 => 7

/-- The place of a register in the table `r[i]` (R124). -/
def Reg8.field (x : Reg8) : Nat :=
  match x with
  | .b => 0
  | .c => 1
  | .d => 2
  | .e => 3
  | .h => 4
  | .l => 5
  | .a => 7

/-- The place of an operand in the table `r[i]` (R124). -/
def Operand8.field (x : Operand8) : Nat :=
  match x with
  | .reg r => r.field
  | .atHl => 6

/-- The place of a pair in the table `rp[i]` (R125). -/
def Pair.field (x : Pair) : Nat :=
  match x with
  | .bc => 0
  | .de => 1
  | .hl => 2
  | .sp => 3

/-- The place of a pair in the table `rp2[i]` (R125). -/
def StackPair.field (x : StackPair) : Nat :=
  match x with
  | .bc => 0
  | .de => 1
  | .hl => 2
  | .af => 3

/-- The place of a condition in the table `cc[i]` (R125). -/
def Cond.field (x : Cond) : Nat :=
  match x with
  | .nz => 0
  | .z => 1
  | .nc => 2
  | .c => 3

/-- The place of an operation in the table `alu[i]` (R125). -/
def AluOp.field (x : AluOp) : Nat :=
  match x with
  | .add => 0
  | .adc => 1
  | .sub => 2
  | .sbc => 3
  | .and => 4
  | .xor => 5
  | .or => 6
  | .cp => 7

/-- The place of an operation in the table `rot[i]` (R125). -/
def RotOp.field (x : RotOp) : Nat :=
  match x with
  | .rlc => 0
  | .rrc => 1
  | .rl => 2
  | .rr => 3
  | .sla => 4
  | .sra => 5
  | .swap => 6
  | .srl => 7

/-- The extended table (R129), by the fields x, y, z of R126. -/
def decodeExtended (op2 : Byte) : Instr :=
  match op2.toNat / 64 with
  | 0 => .rotR (RotOp.ofField (op2.toNat / 8 % 8)) (Operand8.ofField (op2.toNat % 8))
  | 1 => .bitR (Index8.ofField (op2.toNat / 8 % 8)) (Operand8.ofField (op2.toNat % 8))
  | 2 => .resR (Index8.ofField (op2.toNat / 8 % 8)) (Operand8.ofField (op2.toNat % 8))
  | _ => .setR (Index8.ofField (op2.toNat / 8 % 8)) (Operand8.ofField (op2.toNat % 8))

/-- A cell of the primary table: an instruction of one byte, one with an 8-bit or a 16-bit immediate (formats OP, OP_N8 and
OP_E8, OP_NN16 of R123), or the byte that sends the next one to the extended table (R122, R315). -/
inductive PrimaryCell where
  | op (i : Instr)
  | n8 (mk : Byte → Instr)
  | nn16 (mk : Word → Instr)
  | cb

/-- Row 0x of the primary table (R128), by the low nibble of the opcode. -/
def primaryRow0 (lo : Nat) : PrimaryCell :=
  match lo with
  | 0 => .op .nop
  | 1 => .nn16 .ldBcNn
  | 2 => .op .ldAtBcA
  | 3 => .op .incBc
  | 4 => .op .incB
  | 5 => .op .decB
  | 6 => .n8 .ldBN
  | 7 => .op .rlca
  | 8 => .nn16 .ldAtNnSp
  | 9 => .op .addHlBc
  | 10 => .op .ldAAtBc
  | 11 => .op .decBc
  | 12 => .op .incC
  | 13 => .op .decC
  | 14 => .n8 .ldCN
  | _ => .op .rrca

/-- Row 1x of the primary table (R128), by the low nibble of the opcode. -/
def primaryRow1 (lo : Nat) : PrimaryCell :=
  match lo with
  | 0 => .op .stop
  | 1 => .nn16 .ldDeNn
  | 2 => .op .ldAtDeA
  | 3 => .op .incDe
  | 4 => .op .incD
  | 5 => .op .decD
  | 6 => .n8 .ldDN
  | 7 => .op .rla
  | 8 => .n8 .jrDisp
  | 9 => .op .addHlDe
  | 10 => .op .ldAAtDe
  | 11 => .op .decDe
  | 12 => .op .incE
  | 13 => .op .decE
  | 14 => .n8 .ldEN
  | _ => .op .rra

/-- Row 2x of the primary table (R128), by the low nibble of the opcode. -/
def primaryRow2 (lo : Nat) : PrimaryCell :=
  match lo with
  | 0 => .n8 .jrNzDisp
  | 1 => .nn16 .ldHlNn
  | 2 => .op .ldAtHlIncA
  | 3 => .op .incHl
  | 4 => .op .incH
  | 5 => .op .decH
  | 6 => .n8 .ldHN
  | 7 => .op .daa
  | 8 => .n8 .jrZDisp
  | 9 => .op .addHlHl
  | 10 => .op .ldAAtHlInc
  | 11 => .op .decHl
  | 12 => .op .incL
  | 13 => .op .decL
  | 14 => .n8 .ldLN
  | _ => .op .cpl

/-- Row 3x of the primary table (R128), by the low nibble of the opcode. -/
def primaryRow3 (lo : Nat) : PrimaryCell :=
  match lo with
  | 0 => .n8 .jrNcDisp
  | 1 => .nn16 .ldSpNn
  | 2 => .op .ldAtHlDecA
  | 3 => .op .incSp
  | 4 => .op .incAtHl
  | 5 => .op .decAtHl
  | 6 => .n8 .ldAtHlN
  | 7 => .op .scf
  | 8 => .n8 .jrCDisp
  | 9 => .op .addHlSp
  | 10 => .op .ldAAtHlDec
  | 11 => .op .decSp
  | 12 => .op .incA
  | 13 => .op .decA
  | 14 => .n8 .ldAN
  | _ => .op .ccf

/-- Row 4x of the primary table (R128), by the low nibble of the opcode. -/
def primaryRow4 (lo : Nat) : PrimaryCell :=
  match lo with
  | 0 => .op .ldBB
  | 1 => .op .ldBC
  | 2 => .op .ldBD
  | 3 => .op .ldBE
  | 4 => .op .ldBH
  | 5 => .op .ldBL
  | 6 => .op .ldBAtHl
  | 7 => .op .ldBA
  | 8 => .op .ldCB
  | 9 => .op .ldCC
  | 10 => .op .ldCD
  | 11 => .op .ldCE
  | 12 => .op .ldCH
  | 13 => .op .ldCL
  | 14 => .op .ldCAtHl
  | _ => .op .ldCA

/-- Row 5x of the primary table (R128), by the low nibble of the opcode. -/
def primaryRow5 (lo : Nat) : PrimaryCell :=
  match lo with
  | 0 => .op .ldDB
  | 1 => .op .ldDC
  | 2 => .op .ldDD
  | 3 => .op .ldDE
  | 4 => .op .ldDH
  | 5 => .op .ldDL
  | 6 => .op .ldDAtHl
  | 7 => .op .ldDA
  | 8 => .op .ldEB
  | 9 => .op .ldEC
  | 10 => .op .ldED
  | 11 => .op .ldEE
  | 12 => .op .ldEH
  | 13 => .op .ldEL
  | 14 => .op .ldEAtHl
  | _ => .op .ldEA

/-- Row 6x of the primary table (R128), by the low nibble of the opcode. -/
def primaryRow6 (lo : Nat) : PrimaryCell :=
  match lo with
  | 0 => .op .ldHB
  | 1 => .op .ldHC
  | 2 => .op .ldHD
  | 3 => .op .ldHE
  | 4 => .op .ldHH
  | 5 => .op .ldHL
  | 6 => .op .ldHAtHl
  | 7 => .op .ldHA
  | 8 => .op .ldLB
  | 9 => .op .ldLC
  | 10 => .op .ldLD
  | 11 => .op .ldLE
  | 12 => .op .ldLH
  | 13 => .op .ldLL
  | 14 => .op .ldLAtHl
  | _ => .op .ldLA

/-- Row 7x of the primary table (R128), by the low nibble of the opcode. -/
def primaryRow7 (lo : Nat) : PrimaryCell :=
  match lo with
  | 0 => .op .ldAtHlB
  | 1 => .op .ldAtHlC
  | 2 => .op .ldAtHlD
  | 3 => .op .ldAtHlE
  | 4 => .op .ldAtHlH
  | 5 => .op .ldAtHlL
  | 6 => .op .halt
  | 7 => .op .ldAtHlA
  | 8 => .op .ldAB
  | 9 => .op .ldAC
  | 10 => .op .ldAD
  | 11 => .op .ldAE
  | 12 => .op .ldAH
  | 13 => .op .ldAL
  | 14 => .op .ldAAtHl
  | _ => .op .ldAA

/-- Row 8x of the primary table (R128), by the low nibble of the opcode. -/
def primaryRow8 (lo : Nat) : PrimaryCell :=
  match lo with
  | 0 => .op .addAB
  | 1 => .op .addAC
  | 2 => .op .addAD
  | 3 => .op .addAE
  | 4 => .op .addAH
  | 5 => .op .addAL
  | 6 => .op .addAAtHl
  | 7 => .op .addAA
  | 8 => .op .adcAB
  | 9 => .op .adcAC
  | 10 => .op .adcAD
  | 11 => .op .adcAE
  | 12 => .op .adcAH
  | 13 => .op .adcAL
  | 14 => .op .adcAAtHl
  | _ => .op .adcAA

/-- Row 9x of the primary table (R128), by the low nibble of the opcode. -/
def primaryRow9 (lo : Nat) : PrimaryCell :=
  match lo with
  | 0 => .op .subB
  | 1 => .op .subC
  | 2 => .op .subD
  | 3 => .op .subE
  | 4 => .op .subH
  | 5 => .op .subL
  | 6 => .op .subAtHl
  | 7 => .op .subA
  | 8 => .op .sbcAB
  | 9 => .op .sbcAC
  | 10 => .op .sbcAD
  | 11 => .op .sbcAE
  | 12 => .op .sbcAH
  | 13 => .op .sbcAL
  | 14 => .op .sbcAAtHl
  | _ => .op .sbcAA

/-- Row Ax of the primary table (R128), by the low nibble of the opcode. -/
def primaryRowA (lo : Nat) : PrimaryCell :=
  match lo with
  | 0 => .op .andB
  | 1 => .op .andC
  | 2 => .op .andD
  | 3 => .op .andE
  | 4 => .op .andH
  | 5 => .op .andL
  | 6 => .op .andAtHl
  | 7 => .op .andA
  | 8 => .op .xorB
  | 9 => .op .xorC
  | 10 => .op .xorD
  | 11 => .op .xorE
  | 12 => .op .xorH
  | 13 => .op .xorL
  | 14 => .op .xorAtHl
  | _ => .op .xorA

/-- Row Bx of the primary table (R128), by the low nibble of the opcode. -/
def primaryRowB (lo : Nat) : PrimaryCell :=
  match lo with
  | 0 => .op .orB
  | 1 => .op .orC
  | 2 => .op .orD
  | 3 => .op .orE
  | 4 => .op .orH
  | 5 => .op .orL
  | 6 => .op .orAtHl
  | 7 => .op .orA
  | 8 => .op .cpB
  | 9 => .op .cpC
  | 10 => .op .cpD
  | 11 => .op .cpE
  | 12 => .op .cpH
  | 13 => .op .cpL
  | 14 => .op .cpAtHl
  | _ => .op .cpA

/-- Row Cx of the primary table (R128), by the low nibble of the opcode. -/
def primaryRowC (lo : Nat) : PrimaryCell :=
  match lo with
  | 0 => .op .retNz
  | 1 => .op .popBc
  | 2 => .nn16 .jpNzNn
  | 3 => .nn16 .jpNn
  | 4 => .nn16 .callNzNn
  | 5 => .op .pushBc
  | 6 => .n8 .addAN
  | 7 => .op .rst00
  | 8 => .op .retZ
  | 9 => .op .ret
  | 10 => .nn16 .jpZNn
  | 11 => .cb
  | 12 => .nn16 .callZNn
  | 13 => .nn16 .callNn
  | 14 => .n8 .adcAN
  | _ => .op .rst08

/-- Row Dx of the primary table (R128), by the low nibble of the opcode. -/
def primaryRowD (lo : Nat) : PrimaryCell :=
  match lo with
  | 0 => .op .retNc
  | 1 => .op .popDe
  | 2 => .nn16 .jpNcNn
  | 3 => .op .illegalD3
  | 4 => .nn16 .callNcNn
  | 5 => .op .pushDe
  | 6 => .n8 .subN
  | 7 => .op .rst10
  | 8 => .op .retC
  | 9 => .op .reti
  | 10 => .nn16 .jpCNn
  | 11 => .op .illegalDB
  | 12 => .nn16 .callCNn
  | 13 => .op .illegalDD
  | 14 => .n8 .sbcAN
  | _ => .op .rst18

/-- Row Ex of the primary table (R128), by the low nibble of the opcode. -/
def primaryRowE (lo : Nat) : PrimaryCell :=
  match lo with
  | 0 => .n8 .ldhAtNA
  | 1 => .op .popHl
  | 2 => .op .ldAtCA
  | 3 => .op .illegalE3
  | 4 => .op .illegalE4
  | 5 => .op .pushHl
  | 6 => .n8 .andN
  | 7 => .op .rst20
  | 8 => .n8 .addSpDisp
  | 9 => .op .jpAtHl
  | 10 => .nn16 .ldAtNnA
  | 11 => .op .illegalEB
  | 12 => .op .illegalEC
  | 13 => .op .illegalED
  | 14 => .n8 .xorN
  | _ => .op .rst28

/-- Row Fx of the primary table (R128), by the low nibble of the opcode. -/
def primaryRowF (lo : Nat) : PrimaryCell :=
  match lo with
  | 0 => .n8 .ldhAAtN
  | 1 => .op .popAf
  | 2 => .op .ldAAtC
  | 3 => .op .di
  | 4 => .op .illegalF4
  | 5 => .op .pushAf
  | 6 => .n8 .orN
  | 7 => .op .rst30
  | 8 => .n8 .ldHlSpDisp
  | 9 => .op .ldSpHl
  | 10 => .nn16 .ldAAtNn
  | 11 => .op .ei
  | 12 => .op .illegalFC
  | 13 => .op .illegalFD
  | 14 => .n8 .cpN
  | _ => .op .rst38

/-- The primary table (R128), by the two nibbles of the opcode. -/
def primaryCell (op : Byte) : PrimaryCell :=
  match op.toNat / 16 with
  | 0 => primaryRow0 (op.toNat % 16)
  | 1 => primaryRow1 (op.toNat % 16)
  | 2 => primaryRow2 (op.toNat % 16)
  | 3 => primaryRow3 (op.toNat % 16)
  | 4 => primaryRow4 (op.toNat % 16)
  | 5 => primaryRow5 (op.toNat % 16)
  | 6 => primaryRow6 (op.toNat % 16)
  | 7 => primaryRow7 (op.toNat % 16)
  | 8 => primaryRow8 (op.toNat % 16)
  | 9 => primaryRow9 (op.toNat % 16)
  | 10 => primaryRowA (op.toNat % 16)
  | 11 => primaryRowB (op.toNat % 16)
  | 12 => primaryRowC (op.toNat % 16)
  | 13 => primaryRowD (op.toNat % 16)
  | 14 => primaryRowE (op.toNat % 16)
  | _ => primaryRowF (op.toNat % 16)

/-- The instruction of three bytes in the order they lie in memory; a shorter one leaves the rest unread (R120, R123, R127).
Every byte value is a row of the table, so this never fails. -/
def decode3 (b0 b1 b2 : Byte) : Instr :=
  match primaryCell b0 with
  | .op i => i
  | .n8 mk => mk b1
  | .nn16 mk => mk (wordOf b2 b1)
  | .cb => decodeExtended b1

/-- The length in bytes of the instruction an opcode byte begins (R132). -/
def lengthOf (b0 : Byte) : Nat :=
  match primaryCell b0 with
  | .op _ => 1
  | .n8 _ => 2
  | .nn16 _ => 3
  | .cb => 2

/-- Why a list of bytes holds no instruction. -/
inductive DecodeError where
  /-- The list ends before the instruction does. -/
  | truncated
  deriving DecidableEq, Repr

/-- The first instruction of a list of bytes, and the bytes after it. -/
def decode (bytes : List Byte) : Except DecodeError (Instr × List Byte) :=
  match bytes with
  | [] => .error .truncated
  | b0 :: rest =>
    match primaryCell b0, rest with
    | .op i, rest => .ok (i, rest)
    | .n8 mk, b1 :: rest => .ok (mk b1, rest)
    | .nn16 mk, b1 :: b2 :: rest => .ok (mk (wordOf b2 b1), rest)
    | .cb, b1 :: rest => .ok (decodeExtended b1, rest)
    | _, _ => .error .truncated

/-- The bytes of an instruction with a 16-bit immediate: the low byte first (R127). -/
def encodeNn (op : Byte) (nn : Word) : List Byte := [op, loByte nn, hiByte nn]

/-- The bytes of an instruction, from its opcode in R128 or R129 and its immediate (R123). The entry byte 0xCB alone is not
an instruction (R315); its encoding here is that one byte. -/
def encode (i : Instr) : List Byte :=
  match i with
  | .nop => [0x00#8]
  | .ldBcNn nn => encodeNn 0x01#8 nn
  | .ldAtBcA => [0x02#8]
  | .incBc => [0x03#8]
  | .incB => [0x04#8]
  | .decB => [0x05#8]
  | .ldBN n => [0x06#8, n]
  | .rlca => [0x07#8]
  | .ldAtNnSp nn => encodeNn 0x08#8 nn
  | .addHlBc => [0x09#8]
  | .ldAAtBc => [0x0A#8]
  | .decBc => [0x0B#8]
  | .incC => [0x0C#8]
  | .decC => [0x0D#8]
  | .ldCN n => [0x0E#8, n]
  | .rrca => [0x0F#8]
  | .stop => [0x10#8]
  | .ldDeNn nn => encodeNn 0x11#8 nn
  | .ldAtDeA => [0x12#8]
  | .incDe => [0x13#8]
  | .incD => [0x14#8]
  | .decD => [0x15#8]
  | .ldDN n => [0x16#8, n]
  | .rla => [0x17#8]
  | .jrDisp e => [0x18#8, e]
  | .addHlDe => [0x19#8]
  | .ldAAtDe => [0x1A#8]
  | .decDe => [0x1B#8]
  | .incE => [0x1C#8]
  | .decE => [0x1D#8]
  | .ldEN n => [0x1E#8, n]
  | .rra => [0x1F#8]
  | .jrNzDisp e => [0x20#8, e]
  | .ldHlNn nn => encodeNn 0x21#8 nn
  | .ldAtHlIncA => [0x22#8]
  | .incHl => [0x23#8]
  | .incH => [0x24#8]
  | .decH => [0x25#8]
  | .ldHN n => [0x26#8, n]
  | .daa => [0x27#8]
  | .jrZDisp e => [0x28#8, e]
  | .addHlHl => [0x29#8]
  | .ldAAtHlInc => [0x2A#8]
  | .decHl => [0x2B#8]
  | .incL => [0x2C#8]
  | .decL => [0x2D#8]
  | .ldLN n => [0x2E#8, n]
  | .cpl => [0x2F#8]
  | .jrNcDisp e => [0x30#8, e]
  | .ldSpNn nn => encodeNn 0x31#8 nn
  | .ldAtHlDecA => [0x32#8]
  | .incSp => [0x33#8]
  | .incAtHl => [0x34#8]
  | .decAtHl => [0x35#8]
  | .ldAtHlN n => [0x36#8, n]
  | .scf => [0x37#8]
  | .jrCDisp e => [0x38#8, e]
  | .addHlSp => [0x39#8]
  | .ldAAtHlDec => [0x3A#8]
  | .decSp => [0x3B#8]
  | .incA => [0x3C#8]
  | .decA => [0x3D#8]
  | .ldAN n => [0x3E#8, n]
  | .ccf => [0x3F#8]
  | .ldBB => [0x40#8]
  | .ldBC => [0x41#8]
  | .ldBD => [0x42#8]
  | .ldBE => [0x43#8]
  | .ldBH => [0x44#8]
  | .ldBL => [0x45#8]
  | .ldBAtHl => [0x46#8]
  | .ldBA => [0x47#8]
  | .ldCB => [0x48#8]
  | .ldCC => [0x49#8]
  | .ldCD => [0x4A#8]
  | .ldCE => [0x4B#8]
  | .ldCH => [0x4C#8]
  | .ldCL => [0x4D#8]
  | .ldCAtHl => [0x4E#8]
  | .ldCA => [0x4F#8]
  | .ldDB => [0x50#8]
  | .ldDC => [0x51#8]
  | .ldDD => [0x52#8]
  | .ldDE => [0x53#8]
  | .ldDH => [0x54#8]
  | .ldDL => [0x55#8]
  | .ldDAtHl => [0x56#8]
  | .ldDA => [0x57#8]
  | .ldEB => [0x58#8]
  | .ldEC => [0x59#8]
  | .ldED => [0x5A#8]
  | .ldEE => [0x5B#8]
  | .ldEH => [0x5C#8]
  | .ldEL => [0x5D#8]
  | .ldEAtHl => [0x5E#8]
  | .ldEA => [0x5F#8]
  | .ldHB => [0x60#8]
  | .ldHC => [0x61#8]
  | .ldHD => [0x62#8]
  | .ldHE => [0x63#8]
  | .ldHH => [0x64#8]
  | .ldHL => [0x65#8]
  | .ldHAtHl => [0x66#8]
  | .ldHA => [0x67#8]
  | .ldLB => [0x68#8]
  | .ldLC => [0x69#8]
  | .ldLD => [0x6A#8]
  | .ldLE => [0x6B#8]
  | .ldLH => [0x6C#8]
  | .ldLL => [0x6D#8]
  | .ldLAtHl => [0x6E#8]
  | .ldLA => [0x6F#8]
  | .ldAtHlB => [0x70#8]
  | .ldAtHlC => [0x71#8]
  | .ldAtHlD => [0x72#8]
  | .ldAtHlE => [0x73#8]
  | .ldAtHlH => [0x74#8]
  | .ldAtHlL => [0x75#8]
  | .halt => [0x76#8]
  | .ldAtHlA => [0x77#8]
  | .ldAB => [0x78#8]
  | .ldAC => [0x79#8]
  | .ldAD => [0x7A#8]
  | .ldAE => [0x7B#8]
  | .ldAH => [0x7C#8]
  | .ldAL => [0x7D#8]
  | .ldAAtHl => [0x7E#8]
  | .ldAA => [0x7F#8]
  | .addAB => [0x80#8]
  | .addAC => [0x81#8]
  | .addAD => [0x82#8]
  | .addAE => [0x83#8]
  | .addAH => [0x84#8]
  | .addAL => [0x85#8]
  | .addAAtHl => [0x86#8]
  | .addAA => [0x87#8]
  | .adcAB => [0x88#8]
  | .adcAC => [0x89#8]
  | .adcAD => [0x8A#8]
  | .adcAE => [0x8B#8]
  | .adcAH => [0x8C#8]
  | .adcAL => [0x8D#8]
  | .adcAAtHl => [0x8E#8]
  | .adcAA => [0x8F#8]
  | .subB => [0x90#8]
  | .subC => [0x91#8]
  | .subD => [0x92#8]
  | .subE => [0x93#8]
  | .subH => [0x94#8]
  | .subL => [0x95#8]
  | .subAtHl => [0x96#8]
  | .subA => [0x97#8]
  | .sbcAB => [0x98#8]
  | .sbcAC => [0x99#8]
  | .sbcAD => [0x9A#8]
  | .sbcAE => [0x9B#8]
  | .sbcAH => [0x9C#8]
  | .sbcAL => [0x9D#8]
  | .sbcAAtHl => [0x9E#8]
  | .sbcAA => [0x9F#8]
  | .andB => [0xA0#8]
  | .andC => [0xA1#8]
  | .andD => [0xA2#8]
  | .andE => [0xA3#8]
  | .andH => [0xA4#8]
  | .andL => [0xA5#8]
  | .andAtHl => [0xA6#8]
  | .andA => [0xA7#8]
  | .xorB => [0xA8#8]
  | .xorC => [0xA9#8]
  | .xorD => [0xAA#8]
  | .xorE => [0xAB#8]
  | .xorH => [0xAC#8]
  | .xorL => [0xAD#8]
  | .xorAtHl => [0xAE#8]
  | .xorA => [0xAF#8]
  | .orB => [0xB0#8]
  | .orC => [0xB1#8]
  | .orD => [0xB2#8]
  | .orE => [0xB3#8]
  | .orH => [0xB4#8]
  | .orL => [0xB5#8]
  | .orAtHl => [0xB6#8]
  | .orA => [0xB7#8]
  | .cpB => [0xB8#8]
  | .cpC => [0xB9#8]
  | .cpD => [0xBA#8]
  | .cpE => [0xBB#8]
  | .cpH => [0xBC#8]
  | .cpL => [0xBD#8]
  | .cpAtHl => [0xBE#8]
  | .cpA => [0xBF#8]
  | .retNz => [0xC0#8]
  | .popBc => [0xC1#8]
  | .jpNzNn nn => encodeNn 0xC2#8 nn
  | .jpNn nn => encodeNn 0xC3#8 nn
  | .callNzNn nn => encodeNn 0xC4#8 nn
  | .pushBc => [0xC5#8]
  | .addAN n => [0xC6#8, n]
  | .rst00 => [0xC7#8]
  | .retZ => [0xC8#8]
  | .ret => [0xC9#8]
  | .jpZNn nn => encodeNn 0xCA#8 nn
  | .prefixCb => [0xCB#8]
  | .callZNn nn => encodeNn 0xCC#8 nn
  | .callNn nn => encodeNn 0xCD#8 nn
  | .adcAN n => [0xCE#8, n]
  | .rst08 => [0xCF#8]
  | .retNc => [0xD0#8]
  | .popDe => [0xD1#8]
  | .jpNcNn nn => encodeNn 0xD2#8 nn
  | .illegalD3 => [0xD3#8]
  | .callNcNn nn => encodeNn 0xD4#8 nn
  | .pushDe => [0xD5#8]
  | .subN n => [0xD6#8, n]
  | .rst10 => [0xD7#8]
  | .retC => [0xD8#8]
  | .reti => [0xD9#8]
  | .jpCNn nn => encodeNn 0xDA#8 nn
  | .illegalDB => [0xDB#8]
  | .callCNn nn => encodeNn 0xDC#8 nn
  | .illegalDD => [0xDD#8]
  | .sbcAN n => [0xDE#8, n]
  | .rst18 => [0xDF#8]
  | .ldhAtNA n => [0xE0#8, n]
  | .popHl => [0xE1#8]
  | .ldAtCA => [0xE2#8]
  | .illegalE3 => [0xE3#8]
  | .illegalE4 => [0xE4#8]
  | .pushHl => [0xE5#8]
  | .andN n => [0xE6#8, n]
  | .rst20 => [0xE7#8]
  | .addSpDisp e => [0xE8#8, e]
  | .jpAtHl => [0xE9#8]
  | .ldAtNnA nn => encodeNn 0xEA#8 nn
  | .illegalEB => [0xEB#8]
  | .illegalEC => [0xEC#8]
  | .illegalED => [0xED#8]
  | .xorN n => [0xEE#8, n]
  | .rst28 => [0xEF#8]
  | .ldhAAtN n => [0xF0#8, n]
  | .popAf => [0xF1#8]
  | .ldAAtC => [0xF2#8]
  | .di => [0xF3#8]
  | .illegalF4 => [0xF4#8]
  | .pushAf => [0xF5#8]
  | .orN n => [0xF6#8, n]
  | .rst30 => [0xF7#8]
  | .ldHlSpDisp e => [0xF8#8, e]
  | .ldSpHl => [0xF9#8]
  | .ldAAtNn nn => encodeNn 0xFA#8 nn
  | .ei => [0xFB#8]
  | .illegalFC => [0xFC#8]
  | .illegalFD => [0xFD#8]
  | .cpN n => [0xFE#8, n]
  | .rst38 => [0xFF#8]
  | .rlcB => [0xCB#8, 0x00#8]
  | .rlcC => [0xCB#8, 0x01#8]
  | .rlcD => [0xCB#8, 0x02#8]
  | .rlcE => [0xCB#8, 0x03#8]
  | .rlcH => [0xCB#8, 0x04#8]
  | .rlcL => [0xCB#8, 0x05#8]
  | .rlcAtHl => [0xCB#8, 0x06#8]
  | .rlcA => [0xCB#8, 0x07#8]
  | .rrcB => [0xCB#8, 0x08#8]
  | .rrcC => [0xCB#8, 0x09#8]
  | .rrcD => [0xCB#8, 0x0A#8]
  | .rrcE => [0xCB#8, 0x0B#8]
  | .rrcH => [0xCB#8, 0x0C#8]
  | .rrcL => [0xCB#8, 0x0D#8]
  | .rrcAtHl => [0xCB#8, 0x0E#8]
  | .rrcA => [0xCB#8, 0x0F#8]
  | .rlB => [0xCB#8, 0x10#8]
  | .rlC => [0xCB#8, 0x11#8]
  | .rlD => [0xCB#8, 0x12#8]
  | .rlE => [0xCB#8, 0x13#8]
  | .rlH => [0xCB#8, 0x14#8]
  | .rlL => [0xCB#8, 0x15#8]
  | .rlAtHl => [0xCB#8, 0x16#8]
  | .rlA => [0xCB#8, 0x17#8]
  | .rrB => [0xCB#8, 0x18#8]
  | .rrC => [0xCB#8, 0x19#8]
  | .rrD => [0xCB#8, 0x1A#8]
  | .rrE => [0xCB#8, 0x1B#8]
  | .rrH => [0xCB#8, 0x1C#8]
  | .rrL => [0xCB#8, 0x1D#8]
  | .rrAtHl => [0xCB#8, 0x1E#8]
  | .rrA => [0xCB#8, 0x1F#8]
  | .slaB => [0xCB#8, 0x20#8]
  | .slaC => [0xCB#8, 0x21#8]
  | .slaD => [0xCB#8, 0x22#8]
  | .slaE => [0xCB#8, 0x23#8]
  | .slaH => [0xCB#8, 0x24#8]
  | .slaL => [0xCB#8, 0x25#8]
  | .slaAtHl => [0xCB#8, 0x26#8]
  | .slaA => [0xCB#8, 0x27#8]
  | .sraB => [0xCB#8, 0x28#8]
  | .sraC => [0xCB#8, 0x29#8]
  | .sraD => [0xCB#8, 0x2A#8]
  | .sraE => [0xCB#8, 0x2B#8]
  | .sraH => [0xCB#8, 0x2C#8]
  | .sraL => [0xCB#8, 0x2D#8]
  | .sraAtHl => [0xCB#8, 0x2E#8]
  | .sraA => [0xCB#8, 0x2F#8]
  | .swapB => [0xCB#8, 0x30#8]
  | .swapC => [0xCB#8, 0x31#8]
  | .swapD => [0xCB#8, 0x32#8]
  | .swapE => [0xCB#8, 0x33#8]
  | .swapH => [0xCB#8, 0x34#8]
  | .swapL => [0xCB#8, 0x35#8]
  | .swapAtHl => [0xCB#8, 0x36#8]
  | .swapA => [0xCB#8, 0x37#8]
  | .srlB => [0xCB#8, 0x38#8]
  | .srlC => [0xCB#8, 0x39#8]
  | .srlD => [0xCB#8, 0x3A#8]
  | .srlE => [0xCB#8, 0x3B#8]
  | .srlH => [0xCB#8, 0x3C#8]
  | .srlL => [0xCB#8, 0x3D#8]
  | .srlAtHl => [0xCB#8, 0x3E#8]
  | .srlA => [0xCB#8, 0x3F#8]
  | .bit0B => [0xCB#8, 0x40#8]
  | .bit0C => [0xCB#8, 0x41#8]
  | .bit0D => [0xCB#8, 0x42#8]
  | .bit0E => [0xCB#8, 0x43#8]
  | .bit0H => [0xCB#8, 0x44#8]
  | .bit0L => [0xCB#8, 0x45#8]
  | .bit0AtHl => [0xCB#8, 0x46#8]
  | .bit0A => [0xCB#8, 0x47#8]
  | .bit1B => [0xCB#8, 0x48#8]
  | .bit1C => [0xCB#8, 0x49#8]
  | .bit1D => [0xCB#8, 0x4A#8]
  | .bit1E => [0xCB#8, 0x4B#8]
  | .bit1H => [0xCB#8, 0x4C#8]
  | .bit1L => [0xCB#8, 0x4D#8]
  | .bit1AtHl => [0xCB#8, 0x4E#8]
  | .bit1A => [0xCB#8, 0x4F#8]
  | .bit2B => [0xCB#8, 0x50#8]
  | .bit2C => [0xCB#8, 0x51#8]
  | .bit2D => [0xCB#8, 0x52#8]
  | .bit2E => [0xCB#8, 0x53#8]
  | .bit2H => [0xCB#8, 0x54#8]
  | .bit2L => [0xCB#8, 0x55#8]
  | .bit2AtHl => [0xCB#8, 0x56#8]
  | .bit2A => [0xCB#8, 0x57#8]
  | .bit3B => [0xCB#8, 0x58#8]
  | .bit3C => [0xCB#8, 0x59#8]
  | .bit3D => [0xCB#8, 0x5A#8]
  | .bit3E => [0xCB#8, 0x5B#8]
  | .bit3H => [0xCB#8, 0x5C#8]
  | .bit3L => [0xCB#8, 0x5D#8]
  | .bit3AtHl => [0xCB#8, 0x5E#8]
  | .bit3A => [0xCB#8, 0x5F#8]
  | .bit4B => [0xCB#8, 0x60#8]
  | .bit4C => [0xCB#8, 0x61#8]
  | .bit4D => [0xCB#8, 0x62#8]
  | .bit4E => [0xCB#8, 0x63#8]
  | .bit4H => [0xCB#8, 0x64#8]
  | .bit4L => [0xCB#8, 0x65#8]
  | .bit4AtHl => [0xCB#8, 0x66#8]
  | .bit4A => [0xCB#8, 0x67#8]
  | .bit5B => [0xCB#8, 0x68#8]
  | .bit5C => [0xCB#8, 0x69#8]
  | .bit5D => [0xCB#8, 0x6A#8]
  | .bit5E => [0xCB#8, 0x6B#8]
  | .bit5H => [0xCB#8, 0x6C#8]
  | .bit5L => [0xCB#8, 0x6D#8]
  | .bit5AtHl => [0xCB#8, 0x6E#8]
  | .bit5A => [0xCB#8, 0x6F#8]
  | .bit6B => [0xCB#8, 0x70#8]
  | .bit6C => [0xCB#8, 0x71#8]
  | .bit6D => [0xCB#8, 0x72#8]
  | .bit6E => [0xCB#8, 0x73#8]
  | .bit6H => [0xCB#8, 0x74#8]
  | .bit6L => [0xCB#8, 0x75#8]
  | .bit6AtHl => [0xCB#8, 0x76#8]
  | .bit6A => [0xCB#8, 0x77#8]
  | .bit7B => [0xCB#8, 0x78#8]
  | .bit7C => [0xCB#8, 0x79#8]
  | .bit7D => [0xCB#8, 0x7A#8]
  | .bit7E => [0xCB#8, 0x7B#8]
  | .bit7H => [0xCB#8, 0x7C#8]
  | .bit7L => [0xCB#8, 0x7D#8]
  | .bit7AtHl => [0xCB#8, 0x7E#8]
  | .bit7A => [0xCB#8, 0x7F#8]
  | .res0B => [0xCB#8, 0x80#8]
  | .res0C => [0xCB#8, 0x81#8]
  | .res0D => [0xCB#8, 0x82#8]
  | .res0E => [0xCB#8, 0x83#8]
  | .res0H => [0xCB#8, 0x84#8]
  | .res0L => [0xCB#8, 0x85#8]
  | .res0AtHl => [0xCB#8, 0x86#8]
  | .res0A => [0xCB#8, 0x87#8]
  | .res1B => [0xCB#8, 0x88#8]
  | .res1C => [0xCB#8, 0x89#8]
  | .res1D => [0xCB#8, 0x8A#8]
  | .res1E => [0xCB#8, 0x8B#8]
  | .res1H => [0xCB#8, 0x8C#8]
  | .res1L => [0xCB#8, 0x8D#8]
  | .res1AtHl => [0xCB#8, 0x8E#8]
  | .res1A => [0xCB#8, 0x8F#8]
  | .res2B => [0xCB#8, 0x90#8]
  | .res2C => [0xCB#8, 0x91#8]
  | .res2D => [0xCB#8, 0x92#8]
  | .res2E => [0xCB#8, 0x93#8]
  | .res2H => [0xCB#8, 0x94#8]
  | .res2L => [0xCB#8, 0x95#8]
  | .res2AtHl => [0xCB#8, 0x96#8]
  | .res2A => [0xCB#8, 0x97#8]
  | .res3B => [0xCB#8, 0x98#8]
  | .res3C => [0xCB#8, 0x99#8]
  | .res3D => [0xCB#8, 0x9A#8]
  | .res3E => [0xCB#8, 0x9B#8]
  | .res3H => [0xCB#8, 0x9C#8]
  | .res3L => [0xCB#8, 0x9D#8]
  | .res3AtHl => [0xCB#8, 0x9E#8]
  | .res3A => [0xCB#8, 0x9F#8]
  | .res4B => [0xCB#8, 0xA0#8]
  | .res4C => [0xCB#8, 0xA1#8]
  | .res4D => [0xCB#8, 0xA2#8]
  | .res4E => [0xCB#8, 0xA3#8]
  | .res4H => [0xCB#8, 0xA4#8]
  | .res4L => [0xCB#8, 0xA5#8]
  | .res4AtHl => [0xCB#8, 0xA6#8]
  | .res4A => [0xCB#8, 0xA7#8]
  | .res5B => [0xCB#8, 0xA8#8]
  | .res5C => [0xCB#8, 0xA9#8]
  | .res5D => [0xCB#8, 0xAA#8]
  | .res5E => [0xCB#8, 0xAB#8]
  | .res5H => [0xCB#8, 0xAC#8]
  | .res5L => [0xCB#8, 0xAD#8]
  | .res5AtHl => [0xCB#8, 0xAE#8]
  | .res5A => [0xCB#8, 0xAF#8]
  | .res6B => [0xCB#8, 0xB0#8]
  | .res6C => [0xCB#8, 0xB1#8]
  | .res6D => [0xCB#8, 0xB2#8]
  | .res6E => [0xCB#8, 0xB3#8]
  | .res6H => [0xCB#8, 0xB4#8]
  | .res6L => [0xCB#8, 0xB5#8]
  | .res6AtHl => [0xCB#8, 0xB6#8]
  | .res6A => [0xCB#8, 0xB7#8]
  | .res7B => [0xCB#8, 0xB8#8]
  | .res7C => [0xCB#8, 0xB9#8]
  | .res7D => [0xCB#8, 0xBA#8]
  | .res7E => [0xCB#8, 0xBB#8]
  | .res7H => [0xCB#8, 0xBC#8]
  | .res7L => [0xCB#8, 0xBD#8]
  | .res7AtHl => [0xCB#8, 0xBE#8]
  | .res7A => [0xCB#8, 0xBF#8]
  | .set0B => [0xCB#8, 0xC0#8]
  | .set0C => [0xCB#8, 0xC1#8]
  | .set0D => [0xCB#8, 0xC2#8]
  | .set0E => [0xCB#8, 0xC3#8]
  | .set0H => [0xCB#8, 0xC4#8]
  | .set0L => [0xCB#8, 0xC5#8]
  | .set0AtHl => [0xCB#8, 0xC6#8]
  | .set0A => [0xCB#8, 0xC7#8]
  | .set1B => [0xCB#8, 0xC8#8]
  | .set1C => [0xCB#8, 0xC9#8]
  | .set1D => [0xCB#8, 0xCA#8]
  | .set1E => [0xCB#8, 0xCB#8]
  | .set1H => [0xCB#8, 0xCC#8]
  | .set1L => [0xCB#8, 0xCD#8]
  | .set1AtHl => [0xCB#8, 0xCE#8]
  | .set1A => [0xCB#8, 0xCF#8]
  | .set2B => [0xCB#8, 0xD0#8]
  | .set2C => [0xCB#8, 0xD1#8]
  | .set2D => [0xCB#8, 0xD2#8]
  | .set2E => [0xCB#8, 0xD3#8]
  | .set2H => [0xCB#8, 0xD4#8]
  | .set2L => [0xCB#8, 0xD5#8]
  | .set2AtHl => [0xCB#8, 0xD6#8]
  | .set2A => [0xCB#8, 0xD7#8]
  | .set3B => [0xCB#8, 0xD8#8]
  | .set3C => [0xCB#8, 0xD9#8]
  | .set3D => [0xCB#8, 0xDA#8]
  | .set3E => [0xCB#8, 0xDB#8]
  | .set3H => [0xCB#8, 0xDC#8]
  | .set3L => [0xCB#8, 0xDD#8]
  | .set3AtHl => [0xCB#8, 0xDE#8]
  | .set3A => [0xCB#8, 0xDF#8]
  | .set4B => [0xCB#8, 0xE0#8]
  | .set4C => [0xCB#8, 0xE1#8]
  | .set4D => [0xCB#8, 0xE2#8]
  | .set4E => [0xCB#8, 0xE3#8]
  | .set4H => [0xCB#8, 0xE4#8]
  | .set4L => [0xCB#8, 0xE5#8]
  | .set4AtHl => [0xCB#8, 0xE6#8]
  | .set4A => [0xCB#8, 0xE7#8]
  | .set5B => [0xCB#8, 0xE8#8]
  | .set5C => [0xCB#8, 0xE9#8]
  | .set5D => [0xCB#8, 0xEA#8]
  | .set5E => [0xCB#8, 0xEB#8]
  | .set5H => [0xCB#8, 0xEC#8]
  | .set5L => [0xCB#8, 0xED#8]
  | .set5AtHl => [0xCB#8, 0xEE#8]
  | .set5A => [0xCB#8, 0xEF#8]
  | .set6B => [0xCB#8, 0xF0#8]
  | .set6C => [0xCB#8, 0xF1#8]
  | .set6D => [0xCB#8, 0xF2#8]
  | .set6E => [0xCB#8, 0xF3#8]
  | .set6H => [0xCB#8, 0xF4#8]
  | .set6L => [0xCB#8, 0xF5#8]
  | .set6AtHl => [0xCB#8, 0xF6#8]
  | .set6A => [0xCB#8, 0xF7#8]
  | .set7B => [0xCB#8, 0xF8#8]
  | .set7C => [0xCB#8, 0xF9#8]
  | .set7D => [0xCB#8, 0xFA#8]
  | .set7E => [0xCB#8, 0xFB#8]
  | .set7H => [0xCB#8, 0xFC#8]
  | .set7L => [0xCB#8, 0xFD#8]
  | .set7AtHl => [0xCB#8, 0xFE#8]
  | .set7A => [0xCB#8, 0xFF#8]

/-- The opcode of a list of an instruction's bytes (R120). -/
def opcodeOfBytes (b0 b1 : Byte) : OpcodeValue :=
  match primaryCell b0 with
  | .cb => .extended b1
  | _ => .primary b0

/-- The bytes of a word of `nbits` bits numbered as spec/opcode_table.json numbers it: one byte is the opcode; 16 bits are
`{byte 0, byte 1}`, so the first byte is in the high bits (R123). -/
def tableBytes (nbits w : Nat) : List Byte :=
  (List.range (nbits / 8)).map fun j => BitVec.ofNat 8 (w >>> (8 * (nbits / 8 - 1 - j)))

/-- The same bytes followed by operand bytes of zero, up to the longest instruction, three bytes (R123). -/
def tableFetchBytes (nbits w : Nat) : List Byte := (tableBytes nbits w ++ [0#8, 0#8, 0#8]).take 3

/-- What the decoder reads from such a word. -/
def decodeTableWord (nbits w : Nat) : Option Instr :=
  match decode (tableFetchBytes nbits w) with
  | .ok (i, _) => some i
  | .error _ => none

end Sys2Proof
end

