-- ==== Sys2Proof/Machine/Extended.lean ====
section
/-! DEFINITION. The extended table (file 46_rotate_shift_bit.md): rotates, shifts, SWAP, BIT, RES and SET on a register or on the
byte HL points to (R274). -/

namespace Sys2Proof.Machine

/-- A rotate, shift or SWAP of an operand; flags from the value produced (R274 to R282). -/
def State.rotOperand (s : State) (op : RotOp) (o : Operand8) : State :=
  { (s.skip 2).setOperand o (rotCompute op (s.operand o) s.f.c).value with
    f := (rotCompute op (s.operand o) s.f.c).flags }

/-- BIT: the operand is read and not written (R283). -/
def State.bitTest (s : State) (b : Nat) (o : Operand8) : State := { s.skip 2 with f := bitFlags (s.operand o) b s.f }

/-- RES: `w = v & ~(1 << b)`, no flag changed (R284). -/
def State.resBit (s : State) (b : Nat) (o : Operand8) : State :=
  (s.skip 2).setOperand o (clearBit (s.operand o) b)

/-- SET: `w = v | (1 << b)`, no flag changed (R285). -/
def State.setBitOf (s : State) (b : Nat) (o : Operand8) : State :=
  (s.skip 2).setOperand o (setBit (s.operand o) b)

/-- RLC B (R275). -/
def execRlcB (s : State) : Result := .next (s.rotOperand .rlc (.reg .b))

/-- RLC C (R275). -/
def execRlcC (s : State) : Result := .next (s.rotOperand .rlc (.reg .c))

/-- RLC D (R275). -/
def execRlcD (s : State) : Result := .next (s.rotOperand .rlc (.reg .d))

/-- RLC E (R275). -/
def execRlcE (s : State) : Result := .next (s.rotOperand .rlc (.reg .e))

/-- RLC H (R275). -/
def execRlcH (s : State) : Result := .next (s.rotOperand .rlc (.reg .h))

/-- RLC L (R275). -/
def execRlcL (s : State) : Result := .next (s.rotOperand .rlc (.reg .l))

/-- RLC (HL) (R275). -/
def execRlcAtHl (s : State) : Result := .next (s.rotOperand .rlc .atHl)

/-- RLC A (R275). -/
def execRlcA (s : State) : Result := .next (s.rotOperand .rlc (.reg .a))

/-- RRC B (R276). -/
def execRrcB (s : State) : Result := .next (s.rotOperand .rrc (.reg .b))

/-- RRC C (R276). -/
def execRrcC (s : State) : Result := .next (s.rotOperand .rrc (.reg .c))

/-- RRC D (R276). -/
def execRrcD (s : State) : Result := .next (s.rotOperand .rrc (.reg .d))

/-- RRC E (R276). -/
def execRrcE (s : State) : Result := .next (s.rotOperand .rrc (.reg .e))

/-- RRC H (R276). -/
def execRrcH (s : State) : Result := .next (s.rotOperand .rrc (.reg .h))

/-- RRC L (R276). -/
def execRrcL (s : State) : Result := .next (s.rotOperand .rrc (.reg .l))

/-- RRC (HL) (R276). -/
def execRrcAtHl (s : State) : Result := .next (s.rotOperand .rrc .atHl)

/-- RRC A (R276). -/
def execRrcA (s : State) : Result := .next (s.rotOperand .rrc (.reg .a))

/-- RL B (R277). -/
def execRlB (s : State) : Result := .next (s.rotOperand .rl (.reg .b))

/-- RL C (R277). -/
def execRlC (s : State) : Result := .next (s.rotOperand .rl (.reg .c))

/-- RL D (R277). -/
def execRlD (s : State) : Result := .next (s.rotOperand .rl (.reg .d))

/-- RL E (R277). -/
def execRlE (s : State) : Result := .next (s.rotOperand .rl (.reg .e))

/-- RL H (R277). -/
def execRlH (s : State) : Result := .next (s.rotOperand .rl (.reg .h))

/-- RL L (R277). -/
def execRlL (s : State) : Result := .next (s.rotOperand .rl (.reg .l))

/-- RL (HL) (R277). -/
def execRlAtHl (s : State) : Result := .next (s.rotOperand .rl .atHl)

/-- RL A (R277). -/
def execRlA (s : State) : Result := .next (s.rotOperand .rl (.reg .a))

/-- RR B (R278). -/
def execRrB (s : State) : Result := .next (s.rotOperand .rr (.reg .b))

/-- RR C (R278). -/
def execRrC (s : State) : Result := .next (s.rotOperand .rr (.reg .c))

/-- RR D (R278). -/
def execRrD (s : State) : Result := .next (s.rotOperand .rr (.reg .d))

/-- RR E (R278). -/
def execRrE (s : State) : Result := .next (s.rotOperand .rr (.reg .e))

/-- RR H (R278). -/
def execRrH (s : State) : Result := .next (s.rotOperand .rr (.reg .h))

/-- RR L (R278). -/
def execRrL (s : State) : Result := .next (s.rotOperand .rr (.reg .l))

/-- RR (HL) (R278). -/
def execRrAtHl (s : State) : Result := .next (s.rotOperand .rr .atHl)

/-- RR A (R278). -/
def execRrA (s : State) : Result := .next (s.rotOperand .rr (.reg .a))

/-- SLA B (R279). -/
def execSlaB (s : State) : Result := .next (s.rotOperand .sla (.reg .b))

/-- SLA C (R279). -/
def execSlaC (s : State) : Result := .next (s.rotOperand .sla (.reg .c))

/-- SLA D (R279). -/
def execSlaD (s : State) : Result := .next (s.rotOperand .sla (.reg .d))

/-- SLA E (R279). -/
def execSlaE (s : State) : Result := .next (s.rotOperand .sla (.reg .e))

/-- SLA H (R279). -/
def execSlaH (s : State) : Result := .next (s.rotOperand .sla (.reg .h))

/-- SLA L (R279). -/
def execSlaL (s : State) : Result := .next (s.rotOperand .sla (.reg .l))

/-- SLA (HL) (R279). -/
def execSlaAtHl (s : State) : Result := .next (s.rotOperand .sla .atHl)

/-- SLA A (R279). -/
def execSlaA (s : State) : Result := .next (s.rotOperand .sla (.reg .a))

/-- SRA B (R280). -/
def execSraB (s : State) : Result := .next (s.rotOperand .sra (.reg .b))

/-- SRA C (R280). -/
def execSraC (s : State) : Result := .next (s.rotOperand .sra (.reg .c))

/-- SRA D (R280). -/
def execSraD (s : State) : Result := .next (s.rotOperand .sra (.reg .d))

/-- SRA E (R280). -/
def execSraE (s : State) : Result := .next (s.rotOperand .sra (.reg .e))

/-- SRA H (R280). -/
def execSraH (s : State) : Result := .next (s.rotOperand .sra (.reg .h))

/-- SRA L (R280). -/
def execSraL (s : State) : Result := .next (s.rotOperand .sra (.reg .l))

/-- SRA (HL) (R280). -/
def execSraAtHl (s : State) : Result := .next (s.rotOperand .sra .atHl)

/-- SRA A (R280). -/
def execSraA (s : State) : Result := .next (s.rotOperand .sra (.reg .a))

/-- SWAP B (R281). -/
def execSwapB (s : State) : Result := .next (s.rotOperand .swap (.reg .b))

/-- SWAP C (R281). -/
def execSwapC (s : State) : Result := .next (s.rotOperand .swap (.reg .c))

/-- SWAP D (R281). -/
def execSwapD (s : State) : Result := .next (s.rotOperand .swap (.reg .d))

/-- SWAP E (R281). -/
def execSwapE (s : State) : Result := .next (s.rotOperand .swap (.reg .e))

/-- SWAP H (R281). -/
def execSwapH (s : State) : Result := .next (s.rotOperand .swap (.reg .h))

/-- SWAP L (R281). -/
def execSwapL (s : State) : Result := .next (s.rotOperand .swap (.reg .l))

/-- SWAP (HL) (R281). -/
def execSwapAtHl (s : State) : Result := .next (s.rotOperand .swap .atHl)

/-- SWAP A (R281). -/
def execSwapA (s : State) : Result := .next (s.rotOperand .swap (.reg .a))

/-- SRL B (R282). -/
def execSrlB (s : State) : Result := .next (s.rotOperand .srl (.reg .b))

/-- SRL C (R282). -/
def execSrlC (s : State) : Result := .next (s.rotOperand .srl (.reg .c))

/-- SRL D (R282). -/
def execSrlD (s : State) : Result := .next (s.rotOperand .srl (.reg .d))

/-- SRL E (R282). -/
def execSrlE (s : State) : Result := .next (s.rotOperand .srl (.reg .e))

/-- SRL H (R282). -/
def execSrlH (s : State) : Result := .next (s.rotOperand .srl (.reg .h))

/-- SRL L (R282). -/
def execSrlL (s : State) : Result := .next (s.rotOperand .srl (.reg .l))

/-- SRL (HL) (R282). -/
def execSrlAtHl (s : State) : Result := .next (s.rotOperand .srl .atHl)

/-- SRL A (R282). -/
def execSrlA (s : State) : Result := .next (s.rotOperand .srl (.reg .a))

/-- BIT 0,B (R283). -/
def execBit0B (s : State) : Result := .next (s.bitTest 0 (.reg .b))

/-- BIT 0,C (R283). -/
def execBit0C (s : State) : Result := .next (s.bitTest 0 (.reg .c))

/-- BIT 0,D (R283). -/
def execBit0D (s : State) : Result := .next (s.bitTest 0 (.reg .d))

/-- BIT 0,E (R283). -/
def execBit0E (s : State) : Result := .next (s.bitTest 0 (.reg .e))

/-- BIT 0,H (R283). -/
def execBit0H (s : State) : Result := .next (s.bitTest 0 (.reg .h))

/-- BIT 0,L (R283). -/
def execBit0L (s : State) : Result := .next (s.bitTest 0 (.reg .l))

/-- BIT 0,(HL) (R283). -/
def execBit0AtHl (s : State) : Result := .next (s.bitTest 0 .atHl)

/-- BIT 0,A (R283). -/
def execBit0A (s : State) : Result := .next (s.bitTest 0 (.reg .a))

/-- BIT 1,B (R283). -/
def execBit1B (s : State) : Result := .next (s.bitTest 1 (.reg .b))

/-- BIT 1,C (R283). -/
def execBit1C (s : State) : Result := .next (s.bitTest 1 (.reg .c))

/-- BIT 1,D (R283). -/
def execBit1D (s : State) : Result := .next (s.bitTest 1 (.reg .d))

/-- BIT 1,E (R283). -/
def execBit1E (s : State) : Result := .next (s.bitTest 1 (.reg .e))

/-- BIT 1,H (R283). -/
def execBit1H (s : State) : Result := .next (s.bitTest 1 (.reg .h))

/-- BIT 1,L (R283). -/
def execBit1L (s : State) : Result := .next (s.bitTest 1 (.reg .l))

/-- BIT 1,(HL) (R283). -/
def execBit1AtHl (s : State) : Result := .next (s.bitTest 1 .atHl)

/-- BIT 1,A (R283). -/
def execBit1A (s : State) : Result := .next (s.bitTest 1 (.reg .a))

/-- BIT 2,B (R283). -/
def execBit2B (s : State) : Result := .next (s.bitTest 2 (.reg .b))

/-- BIT 2,C (R283). -/
def execBit2C (s : State) : Result := .next (s.bitTest 2 (.reg .c))

/-- BIT 2,D (R283). -/
def execBit2D (s : State) : Result := .next (s.bitTest 2 (.reg .d))

/-- BIT 2,E (R283). -/
def execBit2E (s : State) : Result := .next (s.bitTest 2 (.reg .e))

/-- BIT 2,H (R283). -/
def execBit2H (s : State) : Result := .next (s.bitTest 2 (.reg .h))

/-- BIT 2,L (R283). -/
def execBit2L (s : State) : Result := .next (s.bitTest 2 (.reg .l))

/-- BIT 2,(HL) (R283). -/
def execBit2AtHl (s : State) : Result := .next (s.bitTest 2 .atHl)

/-- BIT 2,A (R283). -/
def execBit2A (s : State) : Result := .next (s.bitTest 2 (.reg .a))

/-- BIT 3,B (R283). -/
def execBit3B (s : State) : Result := .next (s.bitTest 3 (.reg .b))

/-- BIT 3,C (R283). -/
def execBit3C (s : State) : Result := .next (s.bitTest 3 (.reg .c))

/-- BIT 3,D (R283). -/
def execBit3D (s : State) : Result := .next (s.bitTest 3 (.reg .d))

/-- BIT 3,E (R283). -/
def execBit3E (s : State) : Result := .next (s.bitTest 3 (.reg .e))

/-- BIT 3,H (R283). -/
def execBit3H (s : State) : Result := .next (s.bitTest 3 (.reg .h))

/-- BIT 3,L (R283). -/
def execBit3L (s : State) : Result := .next (s.bitTest 3 (.reg .l))

/-- BIT 3,(HL) (R283). -/
def execBit3AtHl (s : State) : Result := .next (s.bitTest 3 .atHl)

/-- BIT 3,A (R283). -/
def execBit3A (s : State) : Result := .next (s.bitTest 3 (.reg .a))

/-- BIT 4,B (R283). -/
def execBit4B (s : State) : Result := .next (s.bitTest 4 (.reg .b))

/-- BIT 4,C (R283). -/
def execBit4C (s : State) : Result := .next (s.bitTest 4 (.reg .c))

/-- BIT 4,D (R283). -/
def execBit4D (s : State) : Result := .next (s.bitTest 4 (.reg .d))

/-- BIT 4,E (R283). -/
def execBit4E (s : State) : Result := .next (s.bitTest 4 (.reg .e))

/-- BIT 4,H (R283). -/
def execBit4H (s : State) : Result := .next (s.bitTest 4 (.reg .h))

/-- BIT 4,L (R283). -/
def execBit4L (s : State) : Result := .next (s.bitTest 4 (.reg .l))

/-- BIT 4,(HL) (R283). -/
def execBit4AtHl (s : State) : Result := .next (s.bitTest 4 .atHl)

/-- BIT 4,A (R283). -/
def execBit4A (s : State) : Result := .next (s.bitTest 4 (.reg .a))

/-- BIT 5,B (R283). -/
def execBit5B (s : State) : Result := .next (s.bitTest 5 (.reg .b))

/-- BIT 5,C (R283). -/
def execBit5C (s : State) : Result := .next (s.bitTest 5 (.reg .c))

/-- BIT 5,D (R283). -/
def execBit5D (s : State) : Result := .next (s.bitTest 5 (.reg .d))

/-- BIT 5,E (R283). -/
def execBit5E (s : State) : Result := .next (s.bitTest 5 (.reg .e))

/-- BIT 5,H (R283). -/
def execBit5H (s : State) : Result := .next (s.bitTest 5 (.reg .h))

/-- BIT 5,L (R283). -/
def execBit5L (s : State) : Result := .next (s.bitTest 5 (.reg .l))

/-- BIT 5,(HL) (R283). -/
def execBit5AtHl (s : State) : Result := .next (s.bitTest 5 .atHl)

/-- BIT 5,A (R283). -/
def execBit5A (s : State) : Result := .next (s.bitTest 5 (.reg .a))

/-- BIT 6,B (R283). -/
def execBit6B (s : State) : Result := .next (s.bitTest 6 (.reg .b))

/-- BIT 6,C (R283). -/
def execBit6C (s : State) : Result := .next (s.bitTest 6 (.reg .c))

/-- BIT 6,D (R283). -/
def execBit6D (s : State) : Result := .next (s.bitTest 6 (.reg .d))

/-- BIT 6,E (R283). -/
def execBit6E (s : State) : Result := .next (s.bitTest 6 (.reg .e))

/-- BIT 6,H (R283). -/
def execBit6H (s : State) : Result := .next (s.bitTest 6 (.reg .h))

/-- BIT 6,L (R283). -/
def execBit6L (s : State) : Result := .next (s.bitTest 6 (.reg .l))

/-- BIT 6,(HL) (R283). -/
def execBit6AtHl (s : State) : Result := .next (s.bitTest 6 .atHl)

/-- BIT 6,A (R283). -/
def execBit6A (s : State) : Result := .next (s.bitTest 6 (.reg .a))

/-- BIT 7,B (R283). -/
def execBit7B (s : State) : Result := .next (s.bitTest 7 (.reg .b))

/-- BIT 7,C (R283). -/
def execBit7C (s : State) : Result := .next (s.bitTest 7 (.reg .c))

/-- BIT 7,D (R283). -/
def execBit7D (s : State) : Result := .next (s.bitTest 7 (.reg .d))

/-- BIT 7,E (R283). -/
def execBit7E (s : State) : Result := .next (s.bitTest 7 (.reg .e))

/-- BIT 7,H (R283). -/
def execBit7H (s : State) : Result := .next (s.bitTest 7 (.reg .h))

/-- BIT 7,L (R283). -/
def execBit7L (s : State) : Result := .next (s.bitTest 7 (.reg .l))

/-- BIT 7,(HL) (R283). -/
def execBit7AtHl (s : State) : Result := .next (s.bitTest 7 .atHl)

/-- BIT 7,A (R283). -/
def execBit7A (s : State) : Result := .next (s.bitTest 7 (.reg .a))

/-- RES 0,B (R284). -/
def execRes0B (s : State) : Result := .next (s.unlessStubbed (.extended 0x80#8) fun t => t.resBit 0 (.reg .b))

/-- RES 0,C (R284). -/
def execRes0C (s : State) : Result := .next (s.unlessStubbed (.extended 0x81#8) fun t => t.resBit 0 (.reg .c))

/-- RES 0,D (R284). -/
def execRes0D (s : State) : Result := .next (s.unlessStubbed (.extended 0x82#8) fun t => t.resBit 0 (.reg .d))

/-- RES 0,E (R284). -/
def execRes0E (s : State) : Result := .next (s.unlessStubbed (.extended 0x83#8) fun t => t.resBit 0 (.reg .e))

/-- RES 0,H (R284). -/
def execRes0H (s : State) : Result := .next (s.unlessStubbed (.extended 0x84#8) fun t => t.resBit 0 (.reg .h))

/-- RES 0,L (R284). -/
def execRes0L (s : State) : Result := .next (s.unlessStubbed (.extended 0x85#8) fun t => t.resBit 0 (.reg .l))

/-- RES 0,(HL) (R284). -/
def execRes0AtHl (s : State) : Result := .next (s.unlessStubbed (.extended 0x86#8) fun t => t.resBit 0 .atHl)

/-- RES 0,A (R284). -/
def execRes0A (s : State) : Result := .next (s.unlessStubbed (.extended 0x87#8) fun t => t.resBit 0 (.reg .a))

/-- RES 1,B (R284). -/
def execRes1B (s : State) : Result := .next (s.unlessStubbed (.extended 0x88#8) fun t => t.resBit 1 (.reg .b))

/-- RES 1,C (R284). -/
def execRes1C (s : State) : Result := .next (s.unlessStubbed (.extended 0x89#8) fun t => t.resBit 1 (.reg .c))

/-- RES 1,D (R284). -/
def execRes1D (s : State) : Result := .next (s.unlessStubbed (.extended 0x8A#8) fun t => t.resBit 1 (.reg .d))

/-- RES 1,E (R284). -/
def execRes1E (s : State) : Result := .next (s.unlessStubbed (.extended 0x8B#8) fun t => t.resBit 1 (.reg .e))

/-- RES 1,H (R284). -/
def execRes1H (s : State) : Result := .next (s.unlessStubbed (.extended 0x8C#8) fun t => t.resBit 1 (.reg .h))

/-- RES 1,L (R284). -/
def execRes1L (s : State) : Result := .next (s.unlessStubbed (.extended 0x8D#8) fun t => t.resBit 1 (.reg .l))

/-- RES 1,(HL) (R284). -/
def execRes1AtHl (s : State) : Result := .next (s.unlessStubbed (.extended 0x8E#8) fun t => t.resBit 1 .atHl)

/-- RES 1,A (R284). -/
def execRes1A (s : State) : Result := .next (s.unlessStubbed (.extended 0x8F#8) fun t => t.resBit 1 (.reg .a))

/-- RES 2,B (R284). -/
def execRes2B (s : State) : Result := .next (s.unlessStubbed (.extended 0x90#8) fun t => t.resBit 2 (.reg .b))

/-- RES 2,C (R284). -/
def execRes2C (s : State) : Result := .next (s.unlessStubbed (.extended 0x91#8) fun t => t.resBit 2 (.reg .c))

/-- RES 2,D (R284). -/
def execRes2D (s : State) : Result := .next (s.unlessStubbed (.extended 0x92#8) fun t => t.resBit 2 (.reg .d))

/-- RES 2,E (R284). -/
def execRes2E (s : State) : Result := .next (s.unlessStubbed (.extended 0x93#8) fun t => t.resBit 2 (.reg .e))

/-- RES 2,H (R284). -/
def execRes2H (s : State) : Result := .next (s.unlessStubbed (.extended 0x94#8) fun t => t.resBit 2 (.reg .h))

/-- RES 2,L (R284). -/
def execRes2L (s : State) : Result := .next (s.unlessStubbed (.extended 0x95#8) fun t => t.resBit 2 (.reg .l))

/-- RES 2,(HL) (R284). -/
def execRes2AtHl (s : State) : Result := .next (s.unlessStubbed (.extended 0x96#8) fun t => t.resBit 2 .atHl)

/-- RES 2,A (R284). -/
def execRes2A (s : State) : Result := .next (s.unlessStubbed (.extended 0x97#8) fun t => t.resBit 2 (.reg .a))

/-- RES 3,B (R284). -/
def execRes3B (s : State) : Result := .next (s.unlessStubbed (.extended 0x98#8) fun t => t.resBit 3 (.reg .b))

/-- RES 3,C (R284). -/
def execRes3C (s : State) : Result := .next (s.unlessStubbed (.extended 0x99#8) fun t => t.resBit 3 (.reg .c))

/-- RES 3,D (R284). -/
def execRes3D (s : State) : Result := .next (s.unlessStubbed (.extended 0x9A#8) fun t => t.resBit 3 (.reg .d))

/-- RES 3,E (R284). -/
def execRes3E (s : State) : Result := .next (s.unlessStubbed (.extended 0x9B#8) fun t => t.resBit 3 (.reg .e))

/-- RES 3,H (R284). -/
def execRes3H (s : State) : Result := .next (s.unlessStubbed (.extended 0x9C#8) fun t => t.resBit 3 (.reg .h))

/-- RES 3,L (R284). -/
def execRes3L (s : State) : Result := .next (s.unlessStubbed (.extended 0x9D#8) fun t => t.resBit 3 (.reg .l))

/-- RES 3,(HL) (R284). -/
def execRes3AtHl (s : State) : Result := .next (s.unlessStubbed (.extended 0x9E#8) fun t => t.resBit 3 .atHl)

/-- RES 3,A (R284). -/
def execRes3A (s : State) : Result := .next (s.unlessStubbed (.extended 0x9F#8) fun t => t.resBit 3 (.reg .a))

/-- RES 4,B (R284). -/
def execRes4B (s : State) : Result := .next (s.unlessStubbed (.extended 0xA0#8) fun t => t.resBit 4 (.reg .b))

/-- RES 4,C (R284). -/
def execRes4C (s : State) : Result := .next (s.unlessStubbed (.extended 0xA1#8) fun t => t.resBit 4 (.reg .c))

/-- RES 4,D (R284). -/
def execRes4D (s : State) : Result := .next (s.unlessStubbed (.extended 0xA2#8) fun t => t.resBit 4 (.reg .d))

/-- RES 4,E (R284). -/
def execRes4E (s : State) : Result := .next (s.unlessStubbed (.extended 0xA3#8) fun t => t.resBit 4 (.reg .e))

/-- RES 4,H (R284). -/
def execRes4H (s : State) : Result := .next (s.unlessStubbed (.extended 0xA4#8) fun t => t.resBit 4 (.reg .h))

/-- RES 4,L (R284). -/
def execRes4L (s : State) : Result := .next (s.unlessStubbed (.extended 0xA5#8) fun t => t.resBit 4 (.reg .l))

/-- RES 4,(HL) (R284). -/
def execRes4AtHl (s : State) : Result := .next (s.unlessStubbed (.extended 0xA6#8) fun t => t.resBit 4 .atHl)

/-- RES 4,A (R284). -/
def execRes4A (s : State) : Result := .next (s.unlessStubbed (.extended 0xA7#8) fun t => t.resBit 4 (.reg .a))

/-- RES 5,B (R284). -/
def execRes5B (s : State) : Result := .next (s.unlessStubbed (.extended 0xA8#8) fun t => t.resBit 5 (.reg .b))

/-- RES 5,C (R284). -/
def execRes5C (s : State) : Result := .next (s.unlessStubbed (.extended 0xA9#8) fun t => t.resBit 5 (.reg .c))

/-- RES 5,D (R284). -/
def execRes5D (s : State) : Result := .next (s.unlessStubbed (.extended 0xAA#8) fun t => t.resBit 5 (.reg .d))

/-- RES 5,E (R284). -/
def execRes5E (s : State) : Result := .next (s.unlessStubbed (.extended 0xAB#8) fun t => t.resBit 5 (.reg .e))

/-- RES 5,H (R284). -/
def execRes5H (s : State) : Result := .next (s.unlessStubbed (.extended 0xAC#8) fun t => t.resBit 5 (.reg .h))

/-- RES 5,L (R284). -/
def execRes5L (s : State) : Result := .next (s.unlessStubbed (.extended 0xAD#8) fun t => t.resBit 5 (.reg .l))

/-- RES 5,(HL) (R284). -/
def execRes5AtHl (s : State) : Result := .next (s.unlessStubbed (.extended 0xAE#8) fun t => t.resBit 5 .atHl)

/-- RES 5,A (R284). -/
def execRes5A (s : State) : Result := .next (s.unlessStubbed (.extended 0xAF#8) fun t => t.resBit 5 (.reg .a))

/-- RES 6,B (R284). -/
def execRes6B (s : State) : Result := .next (s.unlessStubbed (.extended 0xB0#8) fun t => t.resBit 6 (.reg .b))

/-- RES 6,C (R284). -/
def execRes6C (s : State) : Result := .next (s.unlessStubbed (.extended 0xB1#8) fun t => t.resBit 6 (.reg .c))

/-- RES 6,D (R284). -/
def execRes6D (s : State) : Result := .next (s.unlessStubbed (.extended 0xB2#8) fun t => t.resBit 6 (.reg .d))

/-- RES 6,E (R284). -/
def execRes6E (s : State) : Result := .next (s.unlessStubbed (.extended 0xB3#8) fun t => t.resBit 6 (.reg .e))

/-- RES 6,H (R284). -/
def execRes6H (s : State) : Result := .next (s.unlessStubbed (.extended 0xB4#8) fun t => t.resBit 6 (.reg .h))

/-- RES 6,L (R284). -/
def execRes6L (s : State) : Result := .next (s.unlessStubbed (.extended 0xB5#8) fun t => t.resBit 6 (.reg .l))

/-- RES 6,(HL) (R284). -/
def execRes6AtHl (s : State) : Result := .next (s.unlessStubbed (.extended 0xB6#8) fun t => t.resBit 6 .atHl)

/-- RES 6,A (R284). -/
def execRes6A (s : State) : Result := .next (s.unlessStubbed (.extended 0xB7#8) fun t => t.resBit 6 (.reg .a))

/-- RES 7,B (R284). -/
def execRes7B (s : State) : Result := .next (s.unlessStubbed (.extended 0xB8#8) fun t => t.resBit 7 (.reg .b))

/-- RES 7,C (R284). -/
def execRes7C (s : State) : Result := .next (s.unlessStubbed (.extended 0xB9#8) fun t => t.resBit 7 (.reg .c))

/-- RES 7,D (R284). -/
def execRes7D (s : State) : Result := .next (s.unlessStubbed (.extended 0xBA#8) fun t => t.resBit 7 (.reg .d))

/-- RES 7,E (R284). -/
def execRes7E (s : State) : Result := .next (s.unlessStubbed (.extended 0xBB#8) fun t => t.resBit 7 (.reg .e))

/-- RES 7,H (R284). -/
def execRes7H (s : State) : Result := .next (s.unlessStubbed (.extended 0xBC#8) fun t => t.resBit 7 (.reg .h))

/-- RES 7,L (R284). -/
def execRes7L (s : State) : Result := .next (s.unlessStubbed (.extended 0xBD#8) fun t => t.resBit 7 (.reg .l))

/-- RES 7,(HL) (R284). -/
def execRes7AtHl (s : State) : Result := .next (s.unlessStubbed (.extended 0xBE#8) fun t => t.resBit 7 .atHl)

/-- RES 7,A (R284). -/
def execRes7A (s : State) : Result := .next (s.unlessStubbed (.extended 0xBF#8) fun t => t.resBit 7 (.reg .a))

/-- SET 0,B (R285). -/
def execSet0B (s : State) : Result := .next (s.unlessStubbed (.extended 0xC0#8) fun t => t.setBitOf 0 (.reg .b))

/-- SET 0,C (R285). -/
def execSet0C (s : State) : Result := .next (s.unlessStubbed (.extended 0xC1#8) fun t => t.setBitOf 0 (.reg .c))

/-- SET 0,D (R285). -/
def execSet0D (s : State) : Result := .next (s.unlessStubbed (.extended 0xC2#8) fun t => t.setBitOf 0 (.reg .d))

/-- SET 0,E (R285). -/
def execSet0E (s : State) : Result := .next (s.unlessStubbed (.extended 0xC3#8) fun t => t.setBitOf 0 (.reg .e))

/-- SET 0,H (R285). -/
def execSet0H (s : State) : Result := .next (s.unlessStubbed (.extended 0xC4#8) fun t => t.setBitOf 0 (.reg .h))

/-- SET 0,L (R285). -/
def execSet0L (s : State) : Result := .next (s.unlessStubbed (.extended 0xC5#8) fun t => t.setBitOf 0 (.reg .l))

/-- SET 0,(HL) (R285). -/
def execSet0AtHl (s : State) : Result := .next (s.unlessStubbed (.extended 0xC6#8) fun t => t.setBitOf 0 .atHl)

/-- SET 0,A (R285). -/
def execSet0A (s : State) : Result := .next (s.unlessStubbed (.extended 0xC7#8) fun t => t.setBitOf 0 (.reg .a))

/-- SET 1,B (R285). -/
def execSet1B (s : State) : Result := .next (s.unlessStubbed (.extended 0xC8#8) fun t => t.setBitOf 1 (.reg .b))

/-- SET 1,C (R285). -/
def execSet1C (s : State) : Result := .next (s.unlessStubbed (.extended 0xC9#8) fun t => t.setBitOf 1 (.reg .c))

/-- SET 1,D (R285). -/
def execSet1D (s : State) : Result := .next (s.unlessStubbed (.extended 0xCA#8) fun t => t.setBitOf 1 (.reg .d))

/-- SET 1,E (R285). -/
def execSet1E (s : State) : Result := .next (s.unlessStubbed (.extended 0xCB#8) fun t => t.setBitOf 1 (.reg .e))

/-- SET 1,H (R285). -/
def execSet1H (s : State) : Result := .next (s.unlessStubbed (.extended 0xCC#8) fun t => t.setBitOf 1 (.reg .h))

/-- SET 1,L (R285). -/
def execSet1L (s : State) : Result := .next (s.unlessStubbed (.extended 0xCD#8) fun t => t.setBitOf 1 (.reg .l))

/-- SET 1,(HL) (R285). -/
def execSet1AtHl (s : State) : Result := .next (s.unlessStubbed (.extended 0xCE#8) fun t => t.setBitOf 1 .atHl)

/-- SET 1,A (R285). -/
def execSet1A (s : State) : Result := .next (s.unlessStubbed (.extended 0xCF#8) fun t => t.setBitOf 1 (.reg .a))

/-- SET 2,B (R285). -/
def execSet2B (s : State) : Result := .next (s.unlessStubbed (.extended 0xD0#8) fun t => t.setBitOf 2 (.reg .b))

/-- SET 2,C (R285). -/
def execSet2C (s : State) : Result := .next (s.unlessStubbed (.extended 0xD1#8) fun t => t.setBitOf 2 (.reg .c))

/-- SET 2,D (R285). -/
def execSet2D (s : State) : Result := .next (s.unlessStubbed (.extended 0xD2#8) fun t => t.setBitOf 2 (.reg .d))

/-- SET 2,E (R285). -/
def execSet2E (s : State) : Result := .next (s.unlessStubbed (.extended 0xD3#8) fun t => t.setBitOf 2 (.reg .e))

/-- SET 2,H (R285). -/
def execSet2H (s : State) : Result := .next (s.unlessStubbed (.extended 0xD4#8) fun t => t.setBitOf 2 (.reg .h))

/-- SET 2,L (R285). -/
def execSet2L (s : State) : Result := .next (s.unlessStubbed (.extended 0xD5#8) fun t => t.setBitOf 2 (.reg .l))

/-- SET 2,(HL) (R285). -/
def execSet2AtHl (s : State) : Result := .next (s.unlessStubbed (.extended 0xD6#8) fun t => t.setBitOf 2 .atHl)

/-- SET 2,A (R285). -/
def execSet2A (s : State) : Result := .next (s.unlessStubbed (.extended 0xD7#8) fun t => t.setBitOf 2 (.reg .a))

/-- SET 3,B (R285). -/
def execSet3B (s : State) : Result := .next (s.unlessStubbed (.extended 0xD8#8) fun t => t.setBitOf 3 (.reg .b))

/-- SET 3,C (R285). -/
def execSet3C (s : State) : Result := .next (s.unlessStubbed (.extended 0xD9#8) fun t => t.setBitOf 3 (.reg .c))

/-- SET 3,D (R285). -/
def execSet3D (s : State) : Result := .next (s.unlessStubbed (.extended 0xDA#8) fun t => t.setBitOf 3 (.reg .d))

/-- SET 3,E (R285). -/
def execSet3E (s : State) : Result := .next (s.unlessStubbed (.extended 0xDB#8) fun t => t.setBitOf 3 (.reg .e))

/-- SET 3,H (R285). -/
def execSet3H (s : State) : Result := .next (s.unlessStubbed (.extended 0xDC#8) fun t => t.setBitOf 3 (.reg .h))

/-- SET 3,L (R285). -/
def execSet3L (s : State) : Result := .next (s.unlessStubbed (.extended 0xDD#8) fun t => t.setBitOf 3 (.reg .l))

/-- SET 3,(HL) (R285). -/
def execSet3AtHl (s : State) : Result := .next (s.unlessStubbed (.extended 0xDE#8) fun t => t.setBitOf 3 .atHl)

/-- SET 3,A (R285). -/
def execSet3A (s : State) : Result := .next (s.unlessStubbed (.extended 0xDF#8) fun t => t.setBitOf 3 (.reg .a))

/-- SET 4,B (R285). -/
def execSet4B (s : State) : Result := .next (s.unlessStubbed (.extended 0xE0#8) fun t => t.setBitOf 4 (.reg .b))

/-- SET 4,C (R285). -/
def execSet4C (s : State) : Result := .next (s.unlessStubbed (.extended 0xE1#8) fun t => t.setBitOf 4 (.reg .c))

/-- SET 4,D (R285). -/
def execSet4D (s : State) : Result := .next (s.unlessStubbed (.extended 0xE2#8) fun t => t.setBitOf 4 (.reg .d))

/-- SET 4,E (R285). -/
def execSet4E (s : State) : Result := .next (s.unlessStubbed (.extended 0xE3#8) fun t => t.setBitOf 4 (.reg .e))

/-- SET 4,H (R285). -/
def execSet4H (s : State) : Result := .next (s.unlessStubbed (.extended 0xE4#8) fun t => t.setBitOf 4 (.reg .h))

/-- SET 4,L (R285). -/
def execSet4L (s : State) : Result := .next (s.unlessStubbed (.extended 0xE5#8) fun t => t.setBitOf 4 (.reg .l))

/-- SET 4,(HL) (R285). -/
def execSet4AtHl (s : State) : Result := .next (s.unlessStubbed (.extended 0xE6#8) fun t => t.setBitOf 4 .atHl)

/-- SET 4,A (R285). -/
def execSet4A (s : State) : Result := .next (s.unlessStubbed (.extended 0xE7#8) fun t => t.setBitOf 4 (.reg .a))

/-- SET 5,B (R285). -/
def execSet5B (s : State) : Result := .next (s.unlessStubbed (.extended 0xE8#8) fun t => t.setBitOf 5 (.reg .b))

/-- SET 5,C (R285). -/
def execSet5C (s : State) : Result := .next (s.unlessStubbed (.extended 0xE9#8) fun t => t.setBitOf 5 (.reg .c))

/-- SET 5,D (R285). -/
def execSet5D (s : State) : Result := .next (s.unlessStubbed (.extended 0xEA#8) fun t => t.setBitOf 5 (.reg .d))

/-- SET 5,E (R285). -/
def execSet5E (s : State) : Result := .next (s.unlessStubbed (.extended 0xEB#8) fun t => t.setBitOf 5 (.reg .e))

/-- SET 5,H (R285). -/
def execSet5H (s : State) : Result := .next (s.unlessStubbed (.extended 0xEC#8) fun t => t.setBitOf 5 (.reg .h))

/-- SET 5,L (R285). -/
def execSet5L (s : State) : Result := .next (s.unlessStubbed (.extended 0xED#8) fun t => t.setBitOf 5 (.reg .l))

/-- SET 5,(HL) (R285). -/
def execSet5AtHl (s : State) : Result := .next (s.unlessStubbed (.extended 0xEE#8) fun t => t.setBitOf 5 .atHl)

/-- SET 5,A (R285). -/
def execSet5A (s : State) : Result := .next (s.unlessStubbed (.extended 0xEF#8) fun t => t.setBitOf 5 (.reg .a))

/-- SET 6,B (R285). -/
def execSet6B (s : State) : Result := .next (s.unlessStubbed (.extended 0xF0#8) fun t => t.setBitOf 6 (.reg .b))

/-- SET 6,C (R285). -/
def execSet6C (s : State) : Result := .next (s.unlessStubbed (.extended 0xF1#8) fun t => t.setBitOf 6 (.reg .c))

/-- SET 6,D (R285). -/
def execSet6D (s : State) : Result := .next (s.unlessStubbed (.extended 0xF2#8) fun t => t.setBitOf 6 (.reg .d))

/-- SET 6,E (R285). -/
def execSet6E (s : State) : Result := .next (s.unlessStubbed (.extended 0xF3#8) fun t => t.setBitOf 6 (.reg .e))

/-- SET 6,H (R285). -/
def execSet6H (s : State) : Result := .next (s.unlessStubbed (.extended 0xF4#8) fun t => t.setBitOf 6 (.reg .h))

/-- SET 6,L (R285). -/
def execSet6L (s : State) : Result := .next (s.unlessStubbed (.extended 0xF5#8) fun t => t.setBitOf 6 (.reg .l))

/-- SET 6,(HL) (R285). -/
def execSet6AtHl (s : State) : Result := .next (s.unlessStubbed (.extended 0xF6#8) fun t => t.setBitOf 6 .atHl)

/-- SET 6,A (R285). -/
def execSet6A (s : State) : Result := .next (s.unlessStubbed (.extended 0xF7#8) fun t => t.setBitOf 6 (.reg .a))

/-- SET 7,B (R285). -/
def execSet7B (s : State) : Result := .next (s.unlessStubbed (.extended 0xF8#8) fun t => t.setBitOf 7 (.reg .b))

/-- SET 7,C (R285). -/
def execSet7C (s : State) : Result := .next (s.unlessStubbed (.extended 0xF9#8) fun t => t.setBitOf 7 (.reg .c))

/-- SET 7,D (R285). -/
def execSet7D (s : State) : Result := .next (s.unlessStubbed (.extended 0xFA#8) fun t => t.setBitOf 7 (.reg .d))

/-- SET 7,E (R285). -/
def execSet7E (s : State) : Result := .next (s.unlessStubbed (.extended 0xFB#8) fun t => t.setBitOf 7 (.reg .e))

/-- SET 7,H (R285). -/
def execSet7H (s : State) : Result := .next (s.unlessStubbed (.extended 0xFC#8) fun t => t.setBitOf 7 (.reg .h))

/-- SET 7,L (R285). -/
def execSet7L (s : State) : Result := .next (s.unlessStubbed (.extended 0xFD#8) fun t => t.setBitOf 7 (.reg .l))

/-- SET 7,(HL) (R285). -/
def execSet7AtHl (s : State) : Result := .next (s.unlessStubbed (.extended 0xFE#8) fun t => t.setBitOf 7 .atHl)

/-- SET 7,A (R285). -/
def execSet7A (s : State) : Result := .next (s.unlessStubbed (.extended 0xFF#8) fun t => t.setBitOf 7 (.reg .a))

end Sys2Proof.Machine
end

