-- ==== Sys2Proof/Machine/Control.lean ====
section
/-! DEFINITION. CPU control, the entry byte of the extended table, and the illegal opcodes (file 47_cpu_control.md). -/

namespace Sys2Proof.Machine

/-- `halted <- 1` (R311). -/
def State.haltCpu (s : State) : State := { s.skip 1 with halted := true }

/-- `stopped <- 1`; the byte after the opcode is not fetched (R312). -/
def State.stopCpu (s : State) : State := { s.skip 1 with stopped := true }

/-- The extended instruction a second byte selects, by the fields x, y, z of R126 (R120, R129, R315). -/
def State.runExtended (s : State) (op2 : Byte) : State :=
  match op2.toNat / 64 with
  | 0 => s.rotOperand (RotOp.ofField (op2.toNat / 8 % 8)) (Operand8.ofField (op2.toNat % 8))
  | 1 => s.bitTest (op2.toNat / 8 % 8) (Operand8.ofField (op2.toNat % 8))
  | 2 => s.unlessStubbed (.extended op2) fun t => t.resBit (op2.toNat / 8 % 8) (Operand8.ofField (op2.toNat % 8))
  | _ => s.unlessStubbed (.extended op2) fun t => t.setBitOf (op2.toNat / 8 % 8) (Operand8.ofField (op2.toNat % 8))

/-- NOP (R310). -/
def execNop (s : State) : Result := .next (s.skip 1)

/-- STOP (R312). -/
def execStop (s : State) : Result := .next (s.stopCpu)

/-- HALT (R311). -/
def execHalt (s : State) : Result := .next (s.haltCpu)

/-- The entry byte 0xCB: the byte after it is fetched and indexes the extended table (R315). -/
def execPrefixCb (s : State) : Result := .next (s.runExtended (s.memRead (s.pc + 1#16)))

/-- The illegal opcode 0xD3 (R316). -/
def execIllegalD3 (s : State) : Result := .next (s.raiseIllegal (.primary 0xD3#8))

/-- The illegal opcode 0xDB (R316). -/
def execIllegalDB (s : State) : Result := .next (s.raiseIllegal (.primary 0xDB#8))

/-- The illegal opcode 0xDD (R316). -/
def execIllegalDD (s : State) : Result := .next (s.raiseIllegal (.primary 0xDD#8))

/-- The illegal opcode 0xE3 (R316). -/
def execIllegalE3 (s : State) : Result := .next (s.raiseIllegal (.primary 0xE3#8))

/-- The illegal opcode 0xE4 (R316). -/
def execIllegalE4 (s : State) : Result := .next (s.raiseIllegal (.primary 0xE4#8))

/-- The illegal opcode 0xEB (R316). -/
def execIllegalEB (s : State) : Result := .next (s.raiseIllegal (.primary 0xEB#8))

/-- The illegal opcode 0xEC (R316). -/
def execIllegalEC (s : State) : Result := .next (s.raiseIllegal (.primary 0xEC#8))

/-- The illegal opcode 0xED (R316). -/
def execIllegalED (s : State) : Result := .next (s.raiseIllegal (.primary 0xED#8))

/-- DI (R313). -/
def execDi (s : State) : Result := .next { s.skip 1 with ime := false }

/-- The illegal opcode 0xF4 (R316). -/
def execIllegalF4 (s : State) : Result := .next (s.raiseIllegal (.primary 0xF4#8))

/-- EI (R314). -/
def execEi (s : State) : Result := .next { s.skip 1 with ime := true }

/-- The illegal opcode 0xFC (R316). -/
def execIllegalFC (s : State) : Result := .next (s.raiseIllegal (.primary 0xFC#8))

/-- The illegal opcode 0xFD (R316). -/
def execIllegalFD (s : State) : Result := .next (s.raiseIllegal (.primary 0xFD#8))

end Sys2Proof.Machine
end

