-- ==== Sys2Proof/Machine/Jump.lean ====
section
/-! DEFINITION. Jumps, calls, returns and fixed-vector calls (file 45_jump_call.md). Each meaning first moves PC past the whole
instruction; the operations below then see the PC that R250 (a) speaks of. -/

namespace Sys2Proof.Machine

/-- `PC <- target` (R251, R253, R254). -/
def State.jumpTo (s : State) (target : Word) : State := { s with pc := target }

/-- `if cc then PC <- target` (R252, R255). -/
def State.jumpIf (s : State) (k : Cond) (target : Word) : State := if condHolds k s.f then s.jumpTo target else s

/-- `PC + sext_16(e)`, PC being the address after the displacement byte of the instruction at the state's PC (R254). -/
def State.relTarget (s : State) (e : Byte) : Word := s.pc + 2#16 + sext16 e

/-- `Push16(PC); PC <- target` (R256, R261). -/
def State.callTo (s : State) (target : Word) : State := (s.push16 s.pc).jumpTo target

/-- `if cc then { Push16(PC); PC <- target }` (R257). -/
def State.callIf (s : State) (k : Cond) (target : Word) : State := if condHolds k s.f then s.callTo target else s

/-- `PC <- Pop16()` (R258). -/
def State.returnTo (s : State) : State := s.dropWord.jumpTo s.popValue

/-- `if cc then PC <- Pop16()` (R259). -/
def State.returnIf (s : State) (k : Cond) : State := if condHolds k s.f then s.returnTo else s

/-- JR e (R254). -/
def execJrDisp (e : Byte) (s : State) : Result := .next ((s.skip 2).jumpTo (s.relTarget e))

/-- JR NZ,e (R255). -/
def execJrNzDisp (e : Byte) (s : State) : Result := .next ((s.skip 2).jumpIf .nz (s.relTarget e))

/-- JR Z,e (R255). -/
def execJrZDisp (e : Byte) (s : State) : Result := .next ((s.skip 2).jumpIf .z (s.relTarget e))

/-- JR NC,e (R255). -/
def execJrNcDisp (e : Byte) (s : State) : Result := .next ((s.skip 2).jumpIf .nc (s.relTarget e))

/-- JR C,e (R255). -/
def execJrCDisp (e : Byte) (s : State) : Result := .next ((s.skip 2).jumpIf .c (s.relTarget e))

/-- RET NZ (R259). -/
def execRetNz (s : State) : Result := .next ((s.skip 1).returnIf .nz)

/-- JP NZ,nn (R252). -/
def execJpNzNn (nn : Word) (s : State) : Result := .next ((s.skip 3).jumpIf .nz nn)

/-- JP nn (R251). -/
def execJpNn (nn : Word) (s : State) : Result := .next ((s.skip 3).jumpTo nn)

/-- CALL NZ,nn (R257). -/
def execCallNzNn (nn : Word) (s : State) : Result := .next ((s.skip 3).callIf .nz nn)

/-- RST 0x00 (R261). -/
def execRst00 (s : State) : Result := .next ((s.skip 1).callTo 0x0000#16)

/-- RET Z (R259). -/
def execRetZ (s : State) : Result := .next ((s.skip 1).returnIf .z)

/-- RET (R258). -/
def execRet (s : State) : Result := .next ((s.skip 1).returnTo)

/-- JP Z,nn (R252). -/
def execJpZNn (nn : Word) (s : State) : Result := .next ((s.skip 3).jumpIf .z nn)

/-- CALL Z,nn (R257). -/
def execCallZNn (nn : Word) (s : State) : Result := .next ((s.skip 3).callIf .z nn)

/-- CALL nn (R256). -/
def execCallNn (nn : Word) (s : State) : Result := .next ((s.skip 3).callTo nn)

/-- RST 0x08 (R261). -/
def execRst08 (s : State) : Result := .next ((s.skip 1).callTo 0x0008#16)

/-- RET NC (R259). -/
def execRetNc (s : State) : Result := .next ((s.skip 1).returnIf .nc)

/-- JP NC,nn (R252). -/
def execJpNcNn (nn : Word) (s : State) : Result := .next ((s.skip 3).jumpIf .nc nn)

/-- CALL NC,nn (R257). -/
def execCallNcNn (nn : Word) (s : State) : Result := .next ((s.skip 3).callIf .nc nn)

/-- RST 0x10 (R261). -/
def execRst10 (s : State) : Result := .next ((s.skip 1).callTo 0x0010#16)

/-- RET C (R259). -/
def execRetC (s : State) : Result := .next ((s.skip 1).returnIf .c)

/-- RETI (R260). -/
def execReti (s : State) : Result := .next ((s.skip 1).returnFromInterrupt)

/-- JP C,nn (R252). -/
def execJpCNn (nn : Word) (s : State) : Result := .next ((s.skip 3).jumpIf .c nn)

/-- CALL C,nn (R257). -/
def execCallCNn (nn : Word) (s : State) : Result := .next ((s.skip 3).callIf .c nn)

/-- RST 0x18 (R261). -/
def execRst18 (s : State) : Result := .next ((s.skip 1).callTo 0x0018#16)

/-- RST 0x20 (R261). -/
def execRst20 (s : State) : Result := .next ((s.skip 1).callTo 0x0020#16)

/-- JP (HL) (R253). -/
def execJpAtHl (s : State) : Result := .next ((s.skip 1).jumpTo (s.pair .hl))

/-- RST 0x28 (R261). -/
def execRst28 (s : State) : Result := .next ((s.skip 1).callTo 0x0028#16)

/-- RST 0x30 (R261). -/
def execRst30 (s : State) : Result := .next ((s.skip 1).callTo 0x0030#16)

/-- RST 0x38 (R261). -/
def execRst38 (s : State) : Result := .next ((s.skip 1).callTo 0x0038#16)

end Sys2Proof.Machine
end

