-- ==== Sys2Proof/Machine/Load16.lean ====
section
/-! DEFINITION. 16-bit loads (file 41_load16.md). -/

namespace Sys2Proof.Machine

/-- `nn = Fetch16(); rp[p] <- nn` (R190). -/
def State.ldPair (s : State) (p : Pair) (nn : Word) : State := (s.skip 3).setPair p nn

/-- `nn = Fetch16(); MemWrite(nn, 2, SP)` (R191). -/
def State.storeSp (s : State) (nn : Word) : State := (s.skip 3).memWrite16 nn s.sp

/-- `SP <- HL` (R192). -/
def State.ldSpHl (s : State) : State := { s.skip 1 with sp := s.pair .hl }

/-- `HL <- (SP + sext_16(e)) mod 2^16` with its flags (R193). -/
def State.ldHlSpDisp (s : State) (e : Byte) : State :=
  { (s.skip 2).setPair .hl (addDisp s.sp e).value with f := (addDisp s.sp e).flags }

/-- LD BC,nn (R190). -/
def execLdBcNn (nn : Word) (s : State) : Result := .next (s.ldPair .bc nn)

/-- LD (nn),SP (R191). -/
def execLdAtNnSp (nn : Word) (s : State) : Result := .next (s.storeSp nn)

/-- LD DE,nn (R190). -/
def execLdDeNn (nn : Word) (s : State) : Result := .next (s.ldPair .de nn)

/-- LD HL,nn (R190). -/
def execLdHlNn (nn : Word) (s : State) : Result := .next (s.ldPair .hl nn)

/-- LD SP,nn (R190). -/
def execLdSpNn (nn : Word) (s : State) : Result := .next (s.ldPair .sp nn)

/-- LD HL,SP+e (R193). -/
def execLdHlSpDisp (e : Byte) (s : State) : Result := .next (s.ldHlSpDisp e)

/-- LD SP,HL (R192). -/
def execLdSpHl (s : State) : Result := .next (s.ldSpHl)

end Sys2Proof.Machine
end

