-- ==== Sys2Proof/Machine/Load8.lean ====
section
/-! DEFINITION. 8-bit loads, indirect loads and 0xFF00-page loads (file 40_load8.md). No flag changes and nothing faults. -/

namespace Sys2Proof.Machine

/-- `r[y] <- r[z]` (R150). -/
def State.ldReg (s : State) (dst src : Reg8) : State := (s.skip 1).setReg dst (s.reg src)

/-- `n = Fetch8(); r[y] <- n` (R151). -/
def State.ldImm (s : State) (dst : Reg8) (n : Byte) : State := (s.skip 2).setReg dst n

/-- `r[y] <- MemRead(HL, 1)`, the address formed before either half of HL is overwritten (R152). -/
def State.ldFromHl (s : State) (dst : Reg8) : State := (s.skip 1).setReg dst (s.memRead (s.pair .hl))

/-- `MemWrite(HL, 1, r[z])` (R153). -/
def State.stToHl (s : State) (src : Reg8) : State := (s.skip 1).memWrite (s.pair .hl) (s.reg src)

/-- `n = Fetch8(); MemWrite(HL, 1, n)` (R154). -/
def State.stImmToHl (s : State) (n : Byte) : State := (s.skip 2).memWrite (s.pair .hl) n

/-- `A <- MemRead(addr, 1)` by an instruction of `len` bytes (R155, R156, R159, R161, R163). -/
def State.loadA (s : State) (addr : Word) (len : Nat) : State := { s.skip len with a := s.memRead addr }

/-- `MemWrite(addr, 1, A)` by an instruction of `len` bytes (R157, R158, R160, R162, R164). -/
def State.storeA (s : State) (addr : Word) (len : Nat) : State := (s.skip len).memWrite addr s.a

/-- `HL <- (HL + by) mod 2^16`, after the access (R165 to R168). -/
def State.moveHl (s : State) (by' : Word) : State := s.setPair .hl (s.pair .hl + by')

/-- LD (BC),A (R157). -/
def execLdAtBcA (s : State) : Result := .next (s.storeA (s.pair .bc) 1)

/-- LD B,n (R151). -/
def execLdBN (n : Byte) (s : State) : Result := .next (s.ldImm .b n)

/-- LD A,(BC) (R155). -/
def execLdAAtBc (s : State) : Result := .next (s.loadA (s.pair .bc) 1)

/-- LD C,n (R151). -/
def execLdCN (n : Byte) (s : State) : Result := .next (s.ldImm .c n)

/-- LD (DE),A (R158). -/
def execLdAtDeA (s : State) : Result := .next (s.storeA (s.pair .de) 1)

/-- LD D,n (R151). -/
def execLdDN (n : Byte) (s : State) : Result := .next (s.ldImm .d n)

/-- LD A,(DE) (R156). -/
def execLdAAtDe (s : State) : Result := .next (s.loadA (s.pair .de) 1)

/-- LD E,n (R151). -/
def execLdEN (n : Byte) (s : State) : Result := .next (s.ldImm .e n)

/-- LD (HL+),A (R165). -/
def execLdAtHlIncA (s : State) : Result := .next ((s.storeA (s.pair .hl) 1).moveHl 1#16)

/-- LD H,n (R151). -/
def execLdHN (n : Byte) (s : State) : Result := .next (s.ldImm .h n)

/-- LD A,(HL+) (R166). -/
def execLdAAtHlInc (s : State) : Result := .next ((s.loadA (s.pair .hl) 1).moveHl 1#16)

/-- LD L,n (R151). -/
def execLdLN (n : Byte) (s : State) : Result := .next (s.ldImm .l n)

/-- LD (HL-),A (R167). -/
def execLdAtHlDecA (s : State) : Result := .next ((s.storeA (s.pair .hl) 1).moveHl (-1#16))

/-- LD (HL),n (R154). -/
def execLdAtHlN (n : Byte) (s : State) : Result := .next (s.stImmToHl n)

/-- LD A,(HL-) (R168). -/
def execLdAAtHlDec (s : State) : Result := .next ((s.loadA (s.pair .hl) 1).moveHl (-1#16))

/-- LD A,n (R151). -/
def execLdAN (n : Byte) (s : State) : Result := .next (s.ldImm .a n)

/-- LD B,B (R150). -/
def execLdBB (s : State) : Result := .next (s.ldReg .b .b)

/-- LD B,C (R150). -/
def execLdBC (s : State) : Result := .next (s.ldReg .b .c)

/-- LD B,D (R150). -/
def execLdBD (s : State) : Result := .next (s.ldReg .b .d)

/-- LD B,E (R150). -/
def execLdBE (s : State) : Result := .next (s.ldReg .b .e)

/-- LD B,H (R150). -/
def execLdBH (s : State) : Result := .next (s.ldReg .b .h)

/-- LD B,L (R150). -/
def execLdBL (s : State) : Result := .next (s.ldReg .b .l)

/-- LD B,(HL) (R152). -/
def execLdBAtHl (s : State) : Result := .next (s.ldFromHl .b)

/-- LD B,A (R150). -/
def execLdBA (s : State) : Result := .next (s.ldReg .b .a)

/-- LD C,B (R150). -/
def execLdCB (s : State) : Result := .next (s.ldReg .c .b)

/-- LD C,C (R150). -/
def execLdCC (s : State) : Result := .next (s.ldReg .c .c)

/-- LD C,D (R150). -/
def execLdCD (s : State) : Result := .next (s.ldReg .c .d)

/-- LD C,E (R150). -/
def execLdCE (s : State) : Result := .next (s.ldReg .c .e)

/-- LD C,H (R150). -/
def execLdCH (s : State) : Result := .next (s.ldReg .c .h)

/-- LD C,L (R150). -/
def execLdCL (s : State) : Result := .next (s.ldReg .c .l)

/-- LD C,(HL) (R152). -/
def execLdCAtHl (s : State) : Result := .next (s.ldFromHl .c)

/-- LD C,A (R150). -/
def execLdCA (s : State) : Result := .next (s.ldReg .c .a)

/-- LD D,B (R150). -/
def execLdDB (s : State) : Result := .next (s.ldReg .d .b)

/-- LD D,C (R150). -/
def execLdDC (s : State) : Result := .next (s.ldReg .d .c)

/-- LD D,D (R150). -/
def execLdDD (s : State) : Result := .next (s.ldReg .d .d)

/-- LD D,E (R150). -/
def execLdDE (s : State) : Result := .next (s.ldReg .d .e)

/-- LD D,H (R150). -/
def execLdDH (s : State) : Result := .next (s.ldReg .d .h)

/-- LD D,L (R150). -/
def execLdDL (s : State) : Result := .next (s.ldReg .d .l)

/-- LD D,(HL) (R152). -/
def execLdDAtHl (s : State) : Result := .next (s.ldFromHl .d)

/-- LD D,A (R150). -/
def execLdDA (s : State) : Result := .next (s.ldReg .d .a)

/-- LD E,B (R150). -/
def execLdEB (s : State) : Result := .next (s.ldReg .e .b)

/-- LD E,C (R150). -/
def execLdEC (s : State) : Result := .next (s.ldReg .e .c)

/-- LD E,D (R150). -/
def execLdED (s : State) : Result := .next (s.ldReg .e .d)

/-- LD E,E (R150). -/
def execLdEE (s : State) : Result := .next (s.ldReg .e .e)

/-- LD E,H (R150). -/
def execLdEH (s : State) : Result := .next (s.ldReg .e .h)

/-- LD E,L (R150). -/
def execLdEL (s : State) : Result := .next (s.ldReg .e .l)

/-- LD E,(HL) (R152). -/
def execLdEAtHl (s : State) : Result := .next (s.ldFromHl .e)

/-- LD E,A (R150). -/
def execLdEA (s : State) : Result := .next (s.ldReg .e .a)

/-- LD H,B (R150). -/
def execLdHB (s : State) : Result := .next (s.ldReg .h .b)

/-- LD H,C (R150). -/
def execLdHC (s : State) : Result := .next (s.ldReg .h .c)

/-- LD H,D (R150). -/
def execLdHD (s : State) : Result := .next (s.ldReg .h .d)

/-- LD H,E (R150). -/
def execLdHE (s : State) : Result := .next (s.ldReg .h .e)

/-- LD H,H (R150). -/
def execLdHH (s : State) : Result := .next (s.ldReg .h .h)

/-- LD H,L (R150). -/
def execLdHL (s : State) : Result := .next (s.ldReg .h .l)

/-- LD H,(HL) (R152). -/
def execLdHAtHl (s : State) : Result := .next (s.ldFromHl .h)

/-- LD H,A (R150). -/
def execLdHA (s : State) : Result := .next (s.ldReg .h .a)

/-- LD L,B (R150). -/
def execLdLB (s : State) : Result := .next (s.ldReg .l .b)

/-- LD L,C (R150). -/
def execLdLC (s : State) : Result := .next (s.ldReg .l .c)

/-- LD L,D (R150). -/
def execLdLD (s : State) : Result := .next (s.ldReg .l .d)

/-- LD L,E (R150). -/
def execLdLE (s : State) : Result := .next (s.ldReg .l .e)

/-- LD L,H (R150). -/
def execLdLH (s : State) : Result := .next (s.ldReg .l .h)

/-- LD L,L (R150). -/
def execLdLL (s : State) : Result := .next (s.ldReg .l .l)

/-- LD L,(HL) (R152). -/
def execLdLAtHl (s : State) : Result := .next (s.ldFromHl .l)

/-- LD L,A (R150). -/
def execLdLA (s : State) : Result := .next (s.ldReg .l .a)

/-- LD (HL),B (R153). -/
def execLdAtHlB (s : State) : Result := .next (s.stToHl .b)

/-- LD (HL),C (R153). -/
def execLdAtHlC (s : State) : Result := .next (s.stToHl .c)

/-- LD (HL),D (R153). -/
def execLdAtHlD (s : State) : Result := .next (s.stToHl .d)

/-- LD (HL),E (R153). -/
def execLdAtHlE (s : State) : Result := .next (s.stToHl .e)

/-- LD (HL),H (R153). -/
def execLdAtHlH (s : State) : Result := .next (s.stToHl .h)

/-- LD (HL),L (R153). -/
def execLdAtHlL (s : State) : Result := .next (s.stToHl .l)

/-- LD (HL),A (R153). -/
def execLdAtHlA (s : State) : Result := .next (s.stToHl .a)

/-- LD A,B (R150). -/
def execLdAB (s : State) : Result := .next (s.ldReg .a .b)

/-- LD A,C (R150). -/
def execLdAC (s : State) : Result := .next (s.ldReg .a .c)

/-- LD A,D (R150). -/
def execLdAD (s : State) : Result := .next (s.ldReg .a .d)

/-- LD A,E (R150). -/
def execLdAE (s : State) : Result := .next (s.ldReg .a .e)

/-- LD A,H (R150). -/
def execLdAH (s : State) : Result := .next (s.ldReg .a .h)

/-- LD A,L (R150). -/
def execLdAL (s : State) : Result := .next (s.ldReg .a .l)

/-- LD A,(HL) (R152). -/
def execLdAAtHl (s : State) : Result := .next (s.ldFromHl .a)

/-- LD A,A (R150). -/
def execLdAA (s : State) : Result := .next (s.ldReg .a .a)

/-- LDH (n),A (R162). -/
def execLdhAtNA (n : Byte) (s : State) : Result := .next (s.storeA (pageAddr n) 2)

/-- LD (C),A (R164). -/
def execLdAtCA (s : State) : Result := .next (s.storeA (pageAddr s.c) 1)

/-- LD (nn),A (R160). -/
def execLdAtNnA (nn : Word) (s : State) : Result := .next (s.storeA nn 3)

/-- LDH A,(n) (R161). -/
def execLdhAAtN (n : Byte) (s : State) : Result := .next (s.loadA (pageAddr n) 2)

/-- LD A,(C) (R163). -/
def execLdAAtC (s : State) : Result := .next (s.loadA (pageAddr s.c) 1)

/-- LD A,(nn) (R159). -/
def execLdAAtNn (nn : Word) (s : State) : Result := .next (s.loadA nn 3)

end Sys2Proof.Machine
end

