-- ==== Sys2Proof/Machine/Rotate.lean ====
section
/-! DEFINITION. The accumulator rotates, DAA, CPL, SCF and CCF (file 46_rotate_shift_bit.md, primary table). The four
rotates compute Z from the result (R270, 90_conflicts.md C13). -/

namespace Sys2Proof.Machine

/-- A rotate of A (R270 to R273). -/
def State.rotA (s : State) (op : RotOp) : State :=
  { s.skip 1 with a := (rotCompute op s.a s.f.c).value, f := (rotCompute op s.a s.f.c).flags }

/-- DAA (R286). -/
def State.decimalAdjust (s : State) : State :=
  { s.skip 1 with a := (daaCompute s.a s.f).value, f := (daaCompute s.a s.f).flags }

/-- CPL (R287). -/
def State.complementA (s : State) : State :=
  { s.skip 1 with a := (cplCompute s.a s.f).value, f := (cplCompute s.a s.f).flags }

/-- SCF (R288). -/
def State.setCarry (s : State) : State := { s.skip 1 with f := scfFlags s.f }

/-- CCF (R289). -/
def State.complementCarry (s : State) : State := { s.skip 1 with f := ccfFlags s.f }

/-- RLCA (R270). -/
def execRlca (s : State) : Result := .next (s.rotA .rlc)

/-- RRCA (R272). -/
def execRrca (s : State) : Result := .next (s.rotA .rrc)

/-- RLA (R271). -/
def execRla (s : State) : Result := .next (s.rotA .rl)

/-- RRA (R273). -/
def execRra (s : State) : Result := .next (s.rotA .rr)

/-- DAA (R286). -/
def execDaa (s : State) : Result := .next (s.decimalAdjust)

/-- CPL (R287). -/
def execCpl (s : State) : Result := .next (s.complementA)

/-- SCF (R288). -/
def execScf (s : State) : Result := .next (s.setCarry)

/-- CCF (R289). -/
def execCcf (s : State) : Result := .next (s.complementCarry)

end Sys2Proof.Machine
end

