-- ==== Sys2Proof/Machine/Stack.lean ====
section
/-! DEFINITION. Stack operations (file 44_stack.md). -/

namespace Sys2Proof.Machine

/-- `Push16(rp2[p])` (R241). -/
def State.pushPair (s : State) (p : StackPair) : State := (s.skip 1).push16 (s.stackPair p)

/-- `rp2[p] <- Pop16()`; for AF the low nibble of F is discarded (R242, R243). -/
def State.popPair (s : State) (p : StackPair) : State := (s.skip 1).dropWord.setStackPair p s.popValue

/-- POP BC (R242). -/
def execPopBc (s : State) : Result := .next (s.popPair .bc)

/-- PUSH BC (R241). -/
def execPushBc (s : State) : Result := .next (s.pushPair .bc)

/-- POP DE (R242). -/
def execPopDe (s : State) : Result := .next (s.popPair .de)

/-- PUSH DE (R241). -/
def execPushDe (s : State) : Result := .next (s.pushPair .de)

/-- POP HL (R242). -/
def execPopHl (s : State) : Result := .next (s.popPair .hl)

/-- PUSH HL (R241). -/
def execPushHl (s : State) : Result := .next (s.pushPair .hl)

/-- POP AF (R243). -/
def execPopAf (s : State) : Result := .next (s.popPair .af)

/-- PUSH AF (R241). -/
def execPushAf (s : State) : Result := .next (s.pushPair .af)

end Sys2Proof.Machine
end

