-- ==== Sys2Proof/Machine/Cycles.lean ====
section
/-! DEFINITION. Cycle costs (R131): one cost an opcode, whatever the operands, the flags and the branch taken. -/

namespace Sys2Proof.Machine

/-- The costs of R128 and R131 for opcodes 0x00 to 0x7F, a row a high nibble. -/
def lowCycleRows : List (List Nat) := [
  [4, 12, 8, 8, 4, 4, 8, 4, 20, 8, 8, 8, 4, 4, 8, 4],
  [4, 12, 8, 8, 4, 4, 8, 4, 8, 8, 8, 8, 4, 4, 8, 4],
  [8, 12, 8, 8, 4, 4, 8, 4, 8, 8, 8, 8, 4, 4, 8, 4],
  [8, 12, 8, 8, 12, 12, 12, 4, 8, 8, 8, 8, 4, 4, 8, 4],
  [4, 4, 4, 4, 4, 4, 8, 4, 4, 4, 4, 4, 4, 4, 8, 4],
  [4, 4, 4, 4, 4, 4, 8, 4, 4, 4, 4, 4, 4, 4, 8, 4],
  [4, 4, 4, 4, 4, 4, 8, 4, 4, 4, 4, 4, 4, 4, 8, 4],
  [8, 8, 8, 8, 8, 8, 4, 8, 4, 4, 4, 4, 4, 4, 8, 4]]

/-- The costs of R128 and R131 for opcodes 0x80 to 0xFF. A 0 stands at the entry byte 0xCB and at the illegal opcodes, which
report no cost of their own (R315, R316). -/
def highCycleRows : List (List Nat) := [
  [4, 4, 4, 4, 4, 4, 8, 4, 4, 4, 4, 4, 4, 4, 8, 4],
  [4, 4, 4, 4, 4, 4, 8, 4, 4, 4, 4, 4, 4, 4, 8, 4],
  [4, 4, 4, 4, 4, 4, 8, 4, 4, 4, 4, 4, 4, 4, 8, 4],
  [4, 4, 4, 4, 4, 4, 8, 4, 4, 4, 4, 4, 4, 4, 8, 4],
  [8, 12, 12, 12, 12, 16, 8, 32, 8, 8, 12, 0, 12, 12, 8, 32],
  [8, 12, 12, 0, 12, 16, 8, 32, 8, 8, 12, 0, 12, 0, 8, 32],
  [12, 12, 8, 0, 0, 16, 8, 32, 16, 4, 16, 0, 0, 0, 8, 32],
  [12, 12, 8, 4, 0, 16, 8, 32, 12, 8, 16, 4, 0, 0, 8, 32]]

/-- The cost of an opcode in the table of R131; an extended opcode costs 8, or 16 on `(HL)` (R129). -/
def tableCycles (op : OpcodeValue) : Nat :=
  match op with
  | .primary b => (((lowCycleRows ++ highCycleRows).getD (b.toNat / 16) []).getD (b.toNat % 16) 0)
  | .extended b => if b.toNat % 8 = 6 then 16 else 8

/-- The number of an opcode in `Config.cycleOverrides`: 0 to 255 primary, from 256 extended. -/
def opcodeNumber (op : OpcodeValue) : Nat :=
  match op with
  | .primary b => b.toNat
  | .extended b => 256 + b.toNat

/-- `CYCLES[op]` (R7, R120): the override where the configuration has one, else the table's cost. -/
def cycleCost (cfg : Config) (op : OpcodeValue) : Nat :=
  (cfg.cycleOverrides.lookup (opcodeNumber op)).getD (tableCycles op)

/-- The cost of an instruction in the table of R131, by the opcode of its encoding. -/
def instrCycles (i : Instr) : Nat :=
  match encode i with
  | [] => 0
  | [b0] => tableCycles (.primary b0)
  | b0 :: b1 :: _ => tableCycles (opcodeOfBytes b0 b1)

end Sys2Proof.Machine
end

