-- ==== Sys2Proof/Machine/Video.lean ====
section
/-! DEFINITION. The Video Timing Engine (file 48_video_timing.md): the scanline state machine `Advance`, the background
scanline renderer, the LY write-back, the frame-complete signal and the V-blank interrupt. The LY write hook is in Bus.lean. -/

namespace Sys2Proof.Machine

/-- The display-enable bit, bit 7 of LCDC (R43, R331). -/
def State.displayOn (s : State) : Bool := bitAt (s.rawRead lcdcAddr) 7

/-- How many cycles a mode lasts, at least (R332 to R337). -/
def modeThreshold (m : PpuMode) : Nat :=
  match m with
  | .oam => 80
  | .xfer => 172
  | .hblank => 204
  | .vblank => 456

/-- A byte of `mem` at an address computed as a number below 65536 (R341, R342). -/
def State.vramRead (s : State) (n : Nat) : Byte := s.rawRead (BitVec.ofNat 16 n)

/-- `map_base` (R341). -/
def mapBase (lcdc : Byte) : Nat := if bitAt lcdc 3 then 0x9C00 else 0x9800

/-- `taddr`: the address of a tile's data in the block LCDC bit 4 selects (R342). -/
def tileAddr (lcdc idx : Byte) : Nat :=
  if bitAt lcdc 4 then 0x8000 + idx.toNat * 16
  else 0x8800 + (if idx.toNat < 128 then idx.toNat + 128 else idx.toNat - 128) * 16

/-- The tile index of the background tile that covers (bx, by) (R341). -/
def State.tileIndex (s : State) (bx by' : Nat) : Byte :=
  s.vramRead (mapBase (s.rawRead lcdcAddr) + (by' / 8) * 32 + bx / 8)

/-- The 2-bit colour index at background coordinate (bx, by): `{hi[bit], lo[bit]}` (R342). -/
def State.colourIndex (s : State) (bx by' : Nat) : Nat :=
  let row := tileAddr (s.rawRead lcdcAddr) (s.tileIndex bx by') + (by' % 8) * 2
  2 * bit01 (bitAt (s.vramRead (row + 1)) (7 - bx % 8)) + bit01 (bitAt (s.vramRead row) (7 - bx % 8))

/-- `shade = BGP[2*ci+1 : 2*ci]` (R343). -/
def shadeOf (bgp : Byte) (ci : Nat) : Nat := bgp.toNat / 2 ^ (2 * ci) % 4

/-- `(b, b, b, 255)` with `b = 255 - 85 * shade` (R343). -/
def shadePixel (shade : Nat) : Pixel :=
  let b : Byte := BitVec.ofNat 8 (255 - 85 * shade)
  { r := b, g := b, b := b, a := 0xFF#8 }

/-- The pixel at column `x` of scanline `ly`: scroll (R340), tile (R341, R342), palette (R343). -/
def State.backgroundPixel (s : State) (ly x : Nat) : Pixel :=
  let by' := (ly + (s.rawRead scyAddr).toNat) % 256
  let bx := (x + (s.rawRead scxAddr).toNat) % 256
  shadePixel (shadeOf (s.rawRead bgpAddr) (s.colourIndex bx by'))

/-- The 160 pixels of scanline `ly` (R344). -/
def State.renderRow (s : State) (ly : Nat) : List Pixel := (List.range 160).map (s.backgroundPixel ly)

/-- The pixel of a canvas that nothing has drawn. DESIGN CHOICE (log entry 2): the spec takes the canvas from `INIT`. -/
def blankPixel : Pixel := { r := 0x00#8, g := 0x00#8, b := 0x00#8, a := 0x00#8 }

/-- A row of 160 blank pixels, what a row no list names reads as. -/
def blankRow : List Pixel := List.replicate 160 blankPixel

/-- `canvas[row][..]` (R39). -/
def Canvas.row (c : Canvas) (i : Nat) : List Pixel := Sparse.get blankRow c i

/-- `canvas[row][col]` (R39). -/
def Canvas.pixel (c : Canvas) (row col : Nat) : Pixel := (c.row row).getD col blankPixel

/-- `RenderLine(ly)`: only row `ly` of the canvas changes (R344). -/
def State.renderLine (s : State) (ly : Nat) : State :=
  { s with canvas := Sparse.set blankRow s.canvas ly (s.renderRow ly) }

/-- `line <- n` with the LY write-back, by raw access so that the hook does not fire (R336). -/
def State.moveToLine (s : State) (n : Nat) : State :=
  { s with line := n }.rawWrite lyAddr (BitVec.ofNat 8 n)

/-- What every `Advance` does while the display is off (R331). -/
def State.displayOffReset (s : State) : State :=
  { s with mode := .oam, clock := 0 }.moveToLine 0

/-- The end of pixel-transfer: the line is rendered (R334). -/
def State.endXfer (s : State) : State := { s.renderLine s.line with mode := .hblank }

/-- The end of horizontal blank: the next line, and at line 144 the frame is handed out and V-blank posted (R335, R338). -/
def State.endHblank (s : State) : State :=
  let t := s.moveToLine (s.line + 1)
  if s.line + 1 = 144 then
    { t with mode := .vblank, frames := t.frames ++ [t.canvas] }.postInterrupt .vblank
  else { t with mode := .oam }

/-- The end of a vertical-blank line; after line 153 a new frame (R337). -/
def State.endVblankLine (s : State) : State :=
  if s.line + 1 > 153 then { s with mode := .oam }.moveToLine 0 else s.moveToLine (s.line + 1)

/-- The transition out of a mode whose threshold is reached. -/
def State.endMode (s : State) : State :=
  match s.mode with
  | .oam => { s with mode := .xfer }
  | .xfer => s.endXfer
  | .hblank => s.endHblank
  | .vblank => s.endVblankLine

/-- `Advance(c)` (R332): at most one transition a call, the counter back to 0 at a transition. -/
def State.advance (s : State) (c : Nat) : State :=
  if s.displayOn then
    if s.clock + c < modeThreshold s.mode then { s with clock := s.clock + c }
    else { s with clock := 0 }.endMode
  else s.displayOffReset

end Sys2Proof.Machine
end

