-- ==== Sys2Proof/Machine/Tick.lean ====
section
/-! DEFINITION. What a tick adds around an instruction (R120, R121, R388, R400): overlay removal and fetch before it, then the
video engine fed with its cycles, interrupt dispatch, and the engine fed with the dispatch's cycles. -/

namespace Sys2Proof.Machine

/-- Overlay removal at the start of a step (R78, R120). -/
def State.dropOverlay (s : State) : State :=
  if s.overlayActive = true ∧ s.pc = 0x0100#16 then { s with overlayActive := false } else s

/-- The instruction at PC: its bytes are fetched with the hooked read (R11, R93, R120). Bytes past its length are not used,
and reading them changes nothing (R70). -/
def State.fetched (s : State) : Instr :=
  decode3 (s.memRead s.pc) (s.memRead (s.pc + 1)) (s.memRead (s.pc + 2))

/-- The cycles the instruction at PC costs (R120, R131). -/
def State.fetchedCost (s : State) : Nat :=
  cycleCost s.config (opcodeOfBytes (s.memRead s.pc) (s.memRead (s.pc + 1)))

/-- What a tick begins with: a latched fault, a CPU that is halted or stopped, or an instruction with its cost and the state
it runs in. -/
inductive TickStart where
  | faulted (record : IllegalInstruction)
  | waiting
  | run (i : Instr) (cost : Nat) (s : State)

/-- The start of a tick (R120, R381). -/
def State.tickStart (s : State) : TickStart :=
  match s.fault with
  | some record => .faulted record
  | none =>
    if s.halted || s.stopped then .waiting
    else .run s.dropOverlay.fetched s.dropOverlay.fetchedCost s.dropOverlay

/-- `IF & IE & 0x1F` (R388). -/
def State.pendingSources (s : State) : Byte := s.rawRead ifAddr &&& s.rawRead ieAddr &&& 0x1F#8

/-- The least source whose bit is set: fixed priority V-blank, LCD-status, timer, serial, joypad (R389). -/
def firstSource (m : Byte) : Option InterruptSource :=
  if bitAt m 0 then some .vblank
  else if bitAt m 1 then some .lcdStatus
  else if bitAt m 2 then some .timer
  else if bitAt m 3 then some .serial
  else if bitAt m 4 then some .joypad
  else none

/-- The source `executeinterrupts()` services: none while stopped or with IME = 0 (R388). -/
def State.serviceable (s : State) : Option InterruptSource :=
  if s.stopped || !s.ime then none else firstSource s.pendingSources

/-- `executeinterrupts()`: the state after it and the cycles charged, 5 or 0 (R388). -/
def State.executeInterrupts (s : State) : State × Nat :=
  match s.serviceable with
  | none => (s, 0)
  | some k => (s.takeInterrupt k, 5)

/-- The rest of a tick after a step that reported `cost` cycles; after a fault nothing else runs (R121, R381, R400). -/
def State.finishTick (s : State) (cost : Nat) : State :=
  match s.fault with
  | some _ => { s with tickResult := .faulted }
  | none =>
    let advanced := { s with breakNext := false }.advance cost
    let served := advanced.executeInterrupts
    { served.1.advance served.2 with
      tickResult := if s.breakNext then .stopRequested else .running }

/-- The rest of a tick after what the instruction answered. -/
def finishRun (cost : Nat) (r : Result) : Result :=
  match r with
  | .next t => .next (t.finishTick cost)
  | .fault f => .fault f
  | .refused x => .refused x

/-- A byte put where a fetch at the address reads it (log entry 3): the boot overlay, the cartridge, external RAM (enabled
for the purpose, with one bank where there is none), or the backing array. -/
def State.placeFetchByte (s : State) (a : Word) (v : Byte) : State :=
  if a.toNat ≤ 0x00FF ∧ s.overlayActive = true then
    { s with bootOverlay := some ((s.bootOverlay.getD []).set a.toNat v) }
  else if a.toNat ≤ 0x3FFF then { s with cart := { s.cart with bytes := s.cart.bytes.set a.toNat v } }
  else if a.toNat ≤ 0x7FFF then { s with cart := { s.cart with bytes := s.cart.bytes.set (s.romIndex a) v } }
  else if 0xA000 ≤ a.toNat ∧ a.toNat ≤ 0xBFFF then
    { s with
      ramEnabled := true
      header := { s.header with ramBanks := max s.header.ramBanks 1 }
      extram := s.extram.set (s.extRamIndex a) v }
  else s.rawWrite a v

/-- A list of bytes put at consecutive addresses. -/
def State.placeFetchBytes (s : State) (a : Word) (bytes : List Byte) : State :=
  match bytes with
  | [] => s
  | v :: rest => (s.placeFetchByte a v).placeFetchBytes (a + 1) rest

/-- A CPU that fetches: no latched fault, neither halted nor stopped (R120). -/
def State.readyToFetch (s : State) : State := { s with fault := none, halted := false, stopped := false }

end Sys2Proof.Machine
end

