-- ==== Sys2Proof/Machine/Step.lean ====
section
/-! DEFINITION. One step of the machine is one `Tick()` of the reference loop (R400), the hardware's single transition
function. In a faulted state it answers the fault: the run has ended (R381, R450 (a)). -/

namespace Sys2Proof.Machine

/-- `Tick()` (R400). -/
def step (s : State) : Host.Outcome State Fault Refusal :=
  match s.tickStart with
  | .faulted record => .fault (.illegalInstruction record)
  | .waiting => .next (s.finishTick 0)
  | .run i cost t => finishRun cost (exec i t)

/-- The state with an instruction, given as a word numbered as spec/opcode_table.json numbers it, stored where `step`
fetches its next instruction (log entry 3). -/
def State.withFetchWord (s : State) (nbits w : Nat) : State :=
  s.readyToFetch.placeFetchBytes s.pc (tableFetchBytes nbits w)

end Sys2Proof.Machine
end

