-- ==== Sys2Proof/Machine/Reset.lean ====
section
/-! DEFINITION. Cartridge load and reset (R8, R65 to R69, R382, R430 to R432): the header-derived constants, the load checks,
and the machine they leave for every choice of the parameters of R7. -/

namespace Sys2Proof.Machine

/-- `CartridgeLoadFailure` and its reasons (R382). -/
inductive LoadFailure where
  | truncated
  | unsupportedType
  | badRomSizeCode
  | badRamSizeCode
  deriving DecidableEq, Repr

/-- `INIT`: the values no rule fixes (R7, R431). The two memory images and the canvas are sparse: what they do not list is
`unlistedByte` or blank. -/
structure Init where
  a : Byte
  f : Flags
  b : Byte
  c : Byte
  d : Byte
  e : Byte
  h : Byte
  l : Byte
  sp : Word
  mem : Memory
  extram : Memory
  canvas : Canvas
  deriving DecidableEq, Repr

/-- The parameters of R7 together. -/
structure LoadParams where
  cart : Cartridge
  bootOverlay : Option Memory
  init : Init
  config : Config
  deriving DecidableEq, Repr

/-- An `INIT` of zeros, DESIGN CHOICE (log entry 2). -/
def Init.zero : Init where
  a := 0x00#8
  f := { z := false, n := false, h := false, c := false }
  b := 0x00#8
  c := 0x00#8
  d := 0x00#8
  e := 0x00#8
  h := 0x00#8
  l := 0x00#8
  sp := 0x0000#16
  mem := []
  extram := []
  canvas := []

/-- The console's post-boot state, the preset R50 offers for running cartridges without an overlay; nothing uses it. -/
def Init.postBoot : Init where
  a := 0x01#8
  f := { z := true, n := false, h := true, c := true }
  b := 0x00#8
  c := 0x13#8
  d := 0x00#8
  e := 0xD8#8
  h := 0x01#8
  l := 0x4D#8
  sp := 0xFFFE#16
  mem := [(0xFF0F, 0xE1#8), (0xFF40, 0x91#8), (0xFF47, 0xFC#8)]
  extram := []
  canvas := []

/-- The parameters of `State.reset`. -/
def LoadParams.blank : LoadParams where
  cart := Cartridge.blank
  bootOverlay := none
  init := Init.zero
  config := Config.default

/-- `mbc_mode` from the type byte (R65). -/
def mbcModeOf (cartType : Byte) : Option MbcMode :=
  match cartType.toNat with
  | 0x00 => some .none
  | 0x01 => some .simple
  | 0x02 => some .simple
  | 0x03 => some .simple
  | _ => none

/-- `rom_banks` from the ROM size code (R66). -/
def romBanksOf (romCode : Byte) : Option Nat :=
  match romCode.toNat with
  | 0x00 => some 2
  | 0x01 => some 4
  | 0x02 => some 8
  | 0x03 => some 16
  | 0x04 => some 32
  | 0x05 => some 64
  | 0x06 => some 128
  | 0x52 => some 72
  | 0x53 => some 80
  | 0x54 => some 96
  | _ => none

/-- `ram_banks` from the RAM size code (R67). -/
def ramBanksOf (ramCode : Byte) : Option Nat :=
  match ramCode.toNat with
  | 0x00 => some 0
  | 0x01 => some 1
  | 0x02 => some 1
  | 0x03 => some 4
  | 0x04 => some 16
  | 0x05 => some 8
  | _ => none

/-- A byte the title is trimmed of: a null or a space (R8). -/
def isTitlePadding (v : Byte) : Bool := decide (v = 0x00#8) || decide (v = 0x20#8)

/-- `title`: the 11 bytes at 0x134, nulls and spaces trimmed at both ends (R8; log entry 9). -/
def Cartridge.title (k : Cartridge) : List Byte :=
  ((((List.range 11).map fun j => k.bytes.get (0x134 + j)).dropWhile isTitlePadding).reverse.dropWhile
    isTitlePadding).reverse

/-- The header of a cartridge, or why it does not load: first that the header is there, then the type, the ROM code, the RAM
code, and the length the ROM code declares (R65 to R69, R382; log entry 9). -/
def Cartridge.load (k : Cartridge) : Except LoadFailure Header :=
  if k.len < 0x14A then .error .truncated
  else
    match mbcModeOf (k.bytes.get 0x147), romBanksOf (k.bytes.get 0x148), ramBanksOf (k.bytes.get 0x149) with
    | none, _, _ => .error .unsupportedType
    | some _, none, _ => .error .badRomSizeCode
    | some _, some _, none => .error .badRamSizeCode
    | some m, some rom, some ram =>
      if k.len < rom * 0x4000 then .error .truncated
      else
        .ok
          { title := k.title
            cartType := k.bytes.get 0x147
            romCode := k.bytes.get 0x148
            ramCode := k.bytes.get 0x149
            romBanks := rom
            ramBanks := ram
            mbcMode := m }

/-- Steps 3 to 9 of the reset sequence, for a cartridge that has loaded (R430, R50). -/
def LoadParams.machine (p : LoadParams) (header : Header) : State where
  a := p.init.a
  f := p.init.f
  b := p.init.b
  c := p.init.c
  d := p.init.d
  e := p.init.e
  h := p.init.h
  l := p.init.l
  pc := if p.bootOverlay.isSome then 0x0000#16 else 0x0100#16
  sp := p.init.sp
  ime := false
  halted := false
  stopped := false
  breakNext := false
  fault := none
  mem := p.init.mem.set 0xFF44 0x00#8
  extram := p.init.extram
  romBank := 1
  ramBank := 0
  ramEnabled := false
  overlayActive := p.bootOverlay.isSome
  hooks := HookRegistry.atReset
  cart := p.cart
  header := header
  bootOverlay := p.bootOverlay
  config := p.config
  line := 0
  mode := .oam
  clock := 0
  canvas := p.init.canvas
  frames := []
  tickResult := .running

/-- `Reset(CART, BOOT_OVERLAY, INIT, ...)` (R430): no machine where the cartridge does not load (R382). -/
def powerOn (p : LoadParams) : Except LoadFailure State :=
  match p.cart.load with
  | .error e => .error e
  | .ok header => .ok (p.machine header)

end Sys2Proof.Machine
end

