-- ==== Sys2Proof/Safety.lean ====
section
/-! DEFINITION. The terms claims use: what a state of a run looks like (R51, R451), which ticks make no progress (R450), and
what an instruction stores where. -/

namespace Sys2Proof.Machine

/-- The memory stores are in canonical form and inside their sizes (R33, R34). -/
structure State.MemoryOk (s : State) : Prop where
  mem : s.mem.wf
  memBound : ∀ p ∈ s.mem, p.1 < 0x10000
  extram : s.extram.wf
  extramBound : ∀ p ∈ s.extram, p.1 < s.header.ramBanks * 0x2000

/-- The bank indices are in range (R35, R51 (b)). -/
structure State.BanksOk (s : State) : Prop where
  rom : s.romBank < s.header.romBanks
  ram : s.ramBank < max s.header.ramBanks 1

/-- The Video Timing Engine's state: the line bounds (R51 (c)), LY (R45, R51 (d)), the clock below the mode's threshold and
the restart state while the display is off (R331, R451 (c)). -/
structure State.VideoOk (s : State) : Prop where
  line : s.line ≤ 153
  visible : s.mode ≠ .vblank → s.line ≤ 143
  readback : s.rawRead lyAddr = BitVec.ofNat 8 s.line
  clock : s.clock < modeThreshold s.mode
  off : s.displayOn = false → s.line = 0 ∧ s.mode = .oam ∧ s.clock = 0

/-- A canvas is 144 rows of 160 pixels (R39), in canonical form. -/
structure Canvas.Ok (c : Canvas) : Prop where
  canonical : Sparse.Canonical blankRow c
  rows : ∀ p ∈ c, p.1 < 144 ∧ p.2.length = 160

/-- What holds after reset and after every step (R51, R451). -/
structure State.Inv (s : State) : Prop where
  memory : s.MemoryOk
  banks : s.BanksOk
  video : s.VideoOk
  canvas : Canvas.Ok s.canvas
  frames : ∀ c ∈ s.frames, Canvas.Ok c
  hooks : s.hooks = HookRegistry.atReset
  loaded : s.cart.load = .ok s.header
  overlay : s.overlayActive = true → s.bootOverlay.isSome = true
  interrupts : s.stopped = true ∨ s.ime = false ∨ s.pendingSources = 0#8
  waits : ¬(s.halted = true ∧ s.stopped = true)

/-- The parameters are ones R7 admits: an `INIT` whose images fit and are in canonical form. -/
structure LoadParams.Ok (p : LoadParams) (header : Header) : Prop where
  mem : p.init.mem.wf
  memBound : ∀ q ∈ p.init.mem, q.1 < 0x10000
  extram : p.init.extram.wf
  extramBound : ∀ q ∈ p.init.extram, q.1 < header.ramBanks * 0x2000
  canvas : Canvas.Ok p.init.canvas

/-- A CPU that fetches nothing: halted or stopped, and not faulted (R28, R29, R401). -/
def State.Waiting (s : State) : Prop := s.fault = none ∧ (s.halted = true ∨ s.stopped = true)

/-- Stuck: waiting, with no source the tick would service (R444, R450 (b)). -/
def State.Stuck (s : State) : Prop := s.Waiting ∧ s.serviceable = none

/-- How a run stands: R450 keeps the three apart. -/
inductive RunStatus where
  | running
  | stuck
  | faulted
  deriving DecidableEq, Repr

/-- The status of a state (R450). -/
def State.status (s : State) : RunStatus :=
  match s.fault with
  | some _ => .faulted
  | none => if (s.halted || s.stopped) && s.serviceable.isNone then .stuck else .running

/-- A run of `n` ticks that never meets a latched fault. -/
def State.RunsSafely (n : Nat) (s : State) : Prop := ∃ t, Host.Core.run Sys2Proof.core n s = .next t

/-- The two byte stores of a word store (R80). -/
def wordStores (addr v : Word) : List (Word × Byte) := [(addr, loByte v), (addr + 1, hiByte v)]

/-- The byte stores of `Push16(v)` (R240). -/
def pushStores (s : State) (v : Word) : List (Word × Byte) := wordStores (s.sp - 2#16) v

/-- The byte store of an extended instruction: on `(HL)`, and not by BIT (R274, R283 to R285). -/
def extendedStores (op2 : Byte) (s : State) : List (Word × Byte) :=
  if op2.toNat % 8 = 6 then
    match op2.toNat / 64 with
    | 0 => [(s.pair .hl, (rotCompute (RotOp.ofField (op2.toNat / 8 % 8)) (s.operand .atHl) s.f.c).value)]
    | 1 => []
    | 2 => if s.config.stubOptional then [] else [(s.pair .hl, clearBit (s.operand .atHl) (op2.toNat / 8 % 8))]
    | _ => if s.config.stubOptional then [] else [(s.pair .hl, setBit (s.operand .atHl) (op2.toNat / 8 % 8))]
  else []

/-- The hooked byte writes of an instruction at the state's PC, in order, each with its address and its value. An instruction
that is not listed stores nothing. -/
def storesOf (i : Instr) (s : State) : List (Word × Byte) :=
  match i with
  | .ldAtHlB => [(s.pair .hl, s.reg .b)]
  | .ldAtHlC => [(s.pair .hl, s.reg .c)]
  | .ldAtHlD => [(s.pair .hl, s.reg .d)]
  | .ldAtHlE => [(s.pair .hl, s.reg .e)]
  | .ldAtHlH => [(s.pair .hl, s.reg .h)]
  | .ldAtHlL => [(s.pair .hl, s.reg .l)]
  | .ldAtHlA => [(s.pair .hl, s.reg .a)]
  | .ldAtHlN n => [(s.pair .hl, n)]
  | .ldAtBcA => [(s.pair .bc, s.a)]
  | .ldAtDeA => [(s.pair .de, s.a)]
  | .ldAtNnA nn => [(nn, s.a)]
  | .ldhAtNA n => [(pageAddr n, s.a)]
  | .ldAtCA => [(pageAddr s.c, s.a)]
  | .ldAtHlIncA => [(s.pair .hl, s.a)]
  | .ldAtHlDecA => [(s.pair .hl, s.a)]
  | .ldAtNnSp nn => wordStores nn s.sp
  | .incAtHl => [(s.pair .hl, (inc8 (s.operand .atHl) s.f).value)]
  | .decAtHl => [(s.pair .hl, (dec8 (s.operand .atHl) s.f).value)]
  | .pushBc => pushStores s (s.stackPair .bc)
  | .pushDe => pushStores s (s.stackPair .de)
  | .pushHl => pushStores s (s.stackPair .hl)
  | .pushAf => pushStores s (s.stackPair .af)
  | .callNn _ => pushStores s (s.pc + 3#16)
  | .callNzNn _ => if condHolds .nz s.f then pushStores s (s.pc + 3#16) else []
  | .callZNn _ => if condHolds .z s.f then pushStores s (s.pc + 3#16) else []
  | .callNcNn _ => if condHolds .nc s.f then pushStores s (s.pc + 3#16) else []
  | .callCNn _ => if condHolds .c s.f then pushStores s (s.pc + 3#16) else []
  | .rst00 => pushStores s (s.pc + 1#16)
  | .rst08 => pushStores s (s.pc + 1#16)
  | .rst10 => pushStores s (s.pc + 1#16)
  | .rst18 => pushStores s (s.pc + 1#16)
  | .rst20 => pushStores s (s.pc + 1#16)
  | .rst28 => pushStores s (s.pc + 1#16)
  | .rst30 => pushStores s (s.pc + 1#16)
  | .rst38 => pushStores s (s.pc + 1#16)
  | .rlcAtHl => extendedStores 0x06#8 s
  | .rrcAtHl => extendedStores 0x0E#8 s
  | .rlAtHl => extendedStores 0x16#8 s
  | .rrAtHl => extendedStores 0x1E#8 s
  | .slaAtHl => extendedStores 0x26#8 s
  | .sraAtHl => extendedStores 0x2E#8 s
  | .swapAtHl => extendedStores 0x36#8 s
  | .srlAtHl => extendedStores 0x3E#8 s
  | .res0AtHl => extendedStores 0x86#8 s
  | .res1AtHl => extendedStores 0x8E#8 s
  | .res2AtHl => extendedStores 0x96#8 s
  | .res3AtHl => extendedStores 0x9E#8 s
  | .res4AtHl => extendedStores 0xA6#8 s
  | .res5AtHl => extendedStores 0xAE#8 s
  | .res6AtHl => extendedStores 0xB6#8 s
  | .res7AtHl => extendedStores 0xBE#8 s
  | .set0AtHl => extendedStores 0xC6#8 s
  | .set1AtHl => extendedStores 0xCE#8 s
  | .set2AtHl => extendedStores 0xD6#8 s
  | .set3AtHl => extendedStores 0xDE#8 s
  | .set4AtHl => extendedStores 0xE6#8 s
  | .set5AtHl => extendedStores 0xEE#8 s
  | .set6AtHl => extendedStores 0xF6#8 s
  | .set7AtHl => extendedStores 0xFE#8 s
  | .prefixCb => extendedStores (s.memRead (s.pc + 1#16)) s
  | _ => []

/-- The hooked writes of a list, in order. -/
def State.writeAll (s : State) (ws : List (Word × Byte)) : State := ws.foldl (fun t p => t.memWrite p.1 p.2) s

/-- The CPU registers of one state on the rest of another: A to L, F, PC, SP, IME, `halted`, `stopped` and `fault` from
`cpu`, everything else from `rest`. -/
def State.withCpuOf (rest cpu : State) : State :=
  { rest with
    a := cpu.a
    f := cpu.f
    b := cpu.b
    c := cpu.c
    d := cpu.d
    e := cpu.e
    h := cpu.h
    l := cpu.l
    pc := cpu.pc
    sp := cpu.sp
    ime := cpu.ime
    halted := cpu.halted
    stopped := cpu.stopped
    fault := cpu.fault }

/-- A CPU that fetches an instruction in the next tick (R120). -/
structure State.Running (s : State) : Prop where
  fault : s.fault = none
  halted : s.halted = false
  stopped : s.stopped = false

/-- The state the instruction at PC runs in: the overlay is gone if PC is 0x0100 (R78, R120). -/
def State.atFetch (s : State) : State := { s with overlayActive := s.overlayActive && decide (s.pc ≠ 0x0100#16) }

/-- An address where a byte stays as it was stored: video RAM, enabled external RAM, and everything from work RAM up but LY
(the storage of R240). -/
def State.Keeps (s : State) (a : Word) : Prop :=
  (0x8000 ≤ a.toNat ∧ a.toNat ≤ 0x9FFF) ∨
    (0xA000 ≤ a.toNat ∧ a.toNat ≤ 0xBFFF ∧ s.extRamOn = true) ∨
    (0xC000 ≤ a.toNat ∧ a ≠ lyAddr)

/-- An instruction of `len` bytes that changes A, the flags and PC: the state after it. -/
def State.withResult (s : State) (len : Nat) (a : Byte) (z n h c : Bool) : State :=
  { s with pc := s.pc + BitVec.ofNat 16 len, a := a, f := { z := z, n := n, h := h, c := c } }

/-- The optional instructions of R135, with the entry byte, whose second byte may select one. -/
def optionalInstr (i : Instr) : Prop :=
  (∃ o, i = .aluR .sbc o) ∨ (∃ n, i = .aluN .sbc n) ∨ (∃ b o, i = .resR b o) ∨ (∃ b o, i = .setR b o) ∨ i = .prefixCb

end Sys2Proof.Machine
end

