-- ==== Sys2Proof/WellFormed.lean ====
section
/-! DEFINITION. Which terms of `Instr` are instructions. Registers, bit numbers and immediates cannot be out of range, by
their types; the one row of the table that is no instruction is the entry byte of the extended table (R123, R315). -/

namespace Sys2Proof

/-- A complete instruction: not the bare entry byte 0xCB, which "is not an instruction" (R315). -/
abbrev Instr.WellFormed (i : Instr) : Prop := i ≠ .prefixCb

end Sys2Proof
end

