-- ==== Sys2Proof/Certificates/Slice0/Obligations.lean ====
section
/-! DEFINITION. The statements for the provers, from the numbered rules of spec/. `exec i s` runs the instruction `i` whose first
byte is at the PC of `s`, so every result below says where PC goes. An equation `exec i s = .next t` gives the whole next
state, so it is also the frame of the instruction: what `t` does not name is as it was. -/

open Sys2Proof Sys2Proof.Machine

/-- Words written out bit by bit from R126 to R129, one or more for each family, decode to the instructions they stand for. -/
def Obligations.ReferenceWordsDecode : Prop :=
  decode [0b01000001#8] = .ok (.ldBC, []) ∧
  decode [0b00111110#8, 0x80#8] = .ok (.ldAN 0x80#8, []) ∧
  decode [0b01110111#8] = .ok (.ldAtHlA, []) ∧
  decode [0b00100001#8, 0x34#8, 0x12#8] = .ok (.ldHlNn 0x1234#16, []) ∧
  decode [0b10001110#8] = .ok (.adcAAtHl, []) ∧
  decode [0b11011110#8, 0x2A#8] = .ok (.sbcAN 0x2A#8, []) ∧
  decode [0b00111001#8] = .ok (.addHlSp, []) ∧
  decode [0b11110101#8] = .ok (.pushAf, []) ∧
  decode [0b00110000#8, 0xFE#8] = .ok (.jrNcDisp 0xFE#8, []) ∧
  decode [0b11001100#8, 0x00#8, 0x03#8] = .ok (.callZNn 0x0300#16, []) ∧
  decode [0b11101111#8] = .ok (.rst28, []) ∧
  decode [0b00100111#8] = .ok (.daa, []) ∧
  decode [0b11001011#8, 0b00110111#8] = .ok (.swapA, []) ∧
  decode [0b11001011#8, 0b01011110#8] = .ok (.bit3AtHl, []) ∧
  decode [0b11001011#8, 0b11001011#8] = .ok (.set1E, []) ∧
  decode [0b01110110#8] = .ok (.halt, []) ∧
  decode [0b11010011#8] = .ok (.illegalD3, [])

/-- No bit of an encoding is dropped: every instruction, with every operand, reads back from the bytes it is written as,
whatever bytes follow (R123, R127). -/
def Obligations.DecodeOfEncode : Prop :=
  ∀ i : Instr, i.WellFormed → ∀ rest : List Byte, decode (encode i ++ rest) = .ok (i, rest)

/-- Each byte sequence has one meaning: what the decoder reads is a well-formed instruction, and its encoding is exactly the
bytes read (R120, R123). -/
def Obligations.EncodeOfDecode : Prop :=
  ∀ (bytes rest : List Byte) (i : Instr), decode bytes = .ok (i, rest) → i.WellFormed ∧ bytes = encode i ++ rest

/-- R132: the first byte alone gives the length, and the decoder takes exactly that many bytes. The table of lengths is the
spec's own, from general knowledge (R132, D2). -/
def Obligations.LengthFromFirstByte : Prop :=
  (∀ b : Byte, lengthOf b =
    if b ∈ [0x01#8, 0x11#8, 0x21#8, 0x31#8, 0x08#8, 0xC2#8, 0xC3#8, 0xC4#8, 0xCA#8, 0xCC#8, 0xCD#8, 0xD2#8, 0xD4#8,
        0xDA#8, 0xDC#8, 0xEA#8, 0xFA#8] then 3
    else if b ∈ [0x06#8, 0x0E#8, 0x16#8, 0x1E#8, 0x26#8, 0x2E#8, 0x36#8, 0x3E#8, 0x18#8, 0x20#8, 0x28#8, 0x30#8,
        0x38#8, 0xC6#8, 0xCE#8, 0xD6#8, 0xDE#8, 0xE6#8, 0xEE#8, 0xF6#8, 0xFE#8, 0xE0#8, 0xF0#8, 0xE8#8, 0xF8#8,
        0xCB#8] then 2
    else 1) ∧
  (∀ (b : Byte) (bytes : List Byte), lengthOf b ≤ bytes.length + 1 →
    ∃ i, decode (b :: bytes) = .ok (i, bytes.drop (lengthOf b - 1))) ∧
  (∀ (b : Byte) (bytes : List Byte), bytes.length + 1 < lengthOf b → decode (b :: bytes) = .error .truncated)

/-- R22 and R24: a register holds what was last written to it and no other changes; a pair is a view of two registers, the
first-named one high; the flags stand at bits 7 to 4 of F and its low nibble is zero whatever is written. The byte a pair's
first register is, the flags' bit positions and the masked nibble are the spec's own choices (D6, D5, D38). -/
def Obligations.RegistersPairsAndFlags : Prop :=
  (∀ (s : State) (r q : Reg8) (v : Byte), (s.setReg r v).reg q = if q = r then v else s.reg q) ∧
  (∀ s : State,
    (s.stackPair .af).toNat = s.a.toNat * 256 + s.f.toByte.toNat ∧
    (s.pair .bc).toNat = s.b.toNat * 256 + s.c.toNat ∧ s.stackPair .bc = s.pair .bc ∧
    (s.pair .de).toNat = s.d.toNat * 256 + s.e.toNat ∧ s.stackPair .de = s.pair .de ∧
    (s.pair .hl).toNat = s.h.toNat * 256 + s.l.toNat ∧ s.stackPair .hl = s.pair .hl ∧
    s.pair .sp = s.sp) ∧
  (∀ (s : State) (v : Word),
    let hi : Byte := BitVec.ofNat 8 (v.toNat / 256)
    let lo : Byte := BitVec.ofNat 8 v.toNat
    s.setPair .bc v = { s with b := hi, c := lo } ∧ s.setStackPair .bc v = { s with b := hi, c := lo } ∧
    s.setPair .de v = { s with d := hi, e := lo } ∧ s.setStackPair .de v = { s with d := hi, e := lo } ∧
    s.setPair .hl v = { s with h := hi, l := lo } ∧ s.setStackPair .hl v = { s with h := hi, l := lo } ∧
    s.setPair .sp v = { s with sp := v } ∧
    ∃ f : Flags, s.setStackPair .af v = { s with a := hi, f := f } ∧ f.toByte = lo &&& 0xF0#8) ∧
  (∀ f : Flags, bitAt f.toByte 7 = f.z ∧ bitAt f.toByte 6 = f.n ∧ bitAt f.toByte 5 = f.h ∧ bitAt f.toByte 4 = f.c ∧
    f.toByte &&& 0x0F#8 = 0x00#8)

/-- R150 to R152: LD r,r' and LD r,n and LD r,(HL). -/
def Obligations.LoadRegister : Prop :=
  (∀ (dst src : Reg8) (s : State),
    encode (.ldRR dst src) = [BitVec.ofNat 8 (0x40 + 8 * dst.field + src.field)] ∧ instrCycles (.ldRR dst src) = 4 ∧
    exec (.ldRR dst src) s = .next ({ s with pc := s.pc + 1#16 }.setReg dst (s.reg src))) ∧
  (∀ (dst : Reg8) (n : Byte) (s : State),
    encode (.ldRN dst n) = [BitVec.ofNat 8 (0x06 + 8 * dst.field), n] ∧ instrCycles (.ldRN dst n) = 8 ∧
    exec (.ldRN dst n) s = .next ({ s with pc := s.pc + 2#16 }.setReg dst n)) ∧
  (∀ (dst : Reg8) (s : State),
    encode (.ldRHl dst) = [BitVec.ofNat 8 (0x46 + 8 * dst.field)] ∧ instrCycles (.ldRHl dst) = 8 ∧
    exec (.ldRHl dst) s = .next ({ s with pc := s.pc + 1#16 }.setReg dst (s.memRead (s.pair .hl))))

/-- R153, R154, R157, R158, R160, R162 and R164: the instructions that store one byte and change nothing else but PC. -/
def Obligations.StoreByte : Prop :=
  (∀ (src : Reg8) (s : State),
    encode (.ldHlR src) = [BitVec.ofNat 8 (0x70 + src.field)] ∧ instrCycles (.ldHlR src) = 8 ∧
    exec (.ldHlR src) s = .next ({ s with pc := s.pc + 1#16 }.memWrite (s.pair .hl) (s.reg src))) ∧
  (∀ (n : Byte) (s : State),
    encode (.ldAtHlN n) = [0x36#8, n] ∧ instrCycles (.ldAtHlN n) = 12 ∧
    exec (.ldAtHlN n) s = .next ({ s with pc := s.pc + 2#16 }.memWrite (s.pair .hl) n)) ∧
  (∀ s : State,
    encode .ldAtBcA = [0x02#8] ∧ instrCycles .ldAtBcA = 8 ∧
    exec .ldAtBcA s = .next ({ s with pc := s.pc + 1#16 }.memWrite (s.pair .bc) s.a)) ∧
  (∀ s : State,
    encode .ldAtDeA = [0x12#8] ∧ instrCycles .ldAtDeA = 8 ∧
    exec .ldAtDeA s = .next ({ s with pc := s.pc + 1#16 }.memWrite (s.pair .de) s.a)) ∧
  (∀ (nn : Word) (s : State),
    encode (.ldAtNnA nn) = [0xEA#8, loByte nn, hiByte nn] ∧ instrCycles (.ldAtNnA nn) = 16 ∧
    exec (.ldAtNnA nn) s = .next ({ s with pc := s.pc + 3#16 }.memWrite nn s.a)) ∧
  (∀ (n : Byte) (s : State),
    encode (.ldhAtNA n) = [0xE0#8, n] ∧ instrCycles (.ldhAtNA n) = 12 ∧
    exec (.ldhAtNA n) s = .next ({ s with pc := s.pc + 2#16 }.memWrite (BitVec.ofNat 16 (0xFF00 + n.toNat)) s.a)) ∧
  (∀ s : State,
    encode .ldAtCA = [0xE2#8] ∧ instrCycles .ldAtCA = 8 ∧
    exec .ldAtCA s = .next ({ s with pc := s.pc + 1#16 }.memWrite (BitVec.ofNat 16 (0xFF00 + s.c.toNat)) s.a))

/-- R155, R156, R159, R161 and R163: the loads of A from memory. -/
def Obligations.LoadAccumulator : Prop :=
  (∀ s : State,
    encode .ldAAtBc = [0x0A#8] ∧ instrCycles .ldAAtBc = 8 ∧
    exec .ldAAtBc s = .next { s with pc := s.pc + 1#16, a := s.memRead (s.pair .bc) }) ∧
  (∀ s : State,
    encode .ldAAtDe = [0x1A#8] ∧ instrCycles .ldAAtDe = 8 ∧
    exec .ldAAtDe s = .next { s with pc := s.pc + 1#16, a := s.memRead (s.pair .de) }) ∧
  (∀ (nn : Word) (s : State),
    encode (.ldAAtNn nn) = [0xFA#8, loByte nn, hiByte nn] ∧ instrCycles (.ldAAtNn nn) = 16 ∧
    exec (.ldAAtNn nn) s = .next { s with pc := s.pc + 3#16, a := s.memRead nn }) ∧
  (∀ (n : Byte) (s : State),
    encode (.ldhAAtN n) = [0xF0#8, n] ∧ instrCycles (.ldhAAtN n) = 12 ∧
    exec (.ldhAAtN n) s = .next { s with pc := s.pc + 2#16, a := s.memRead (BitVec.ofNat 16 (0xFF00 + n.toNat)) }) ∧
  (∀ s : State,
    encode .ldAAtC = [0xF2#8] ∧ instrCycles .ldAAtC = 8 ∧
    exec .ldAAtC s = .next { s with pc := s.pc + 1#16, a := s.memRead (BitVec.ofNat 16 (0xFF00 + s.c.toNat)) })

/-- R165 to R168: the access goes through HL as it was, then HL moves by one, modulo 65536; no flag changes. -/
def Obligations.PostIncrementAndDecrement : Prop :=
  ∀ s : State,
    let hl := s.pair .hl
    let t : State := { s with pc := s.pc + 1#16 }
    (encode .ldAtHlIncA = [0x22#8] ∧ instrCycles .ldAtHlIncA = 8 ∧
      exec .ldAtHlIncA s = .next ((t.memWrite hl s.a).setPair .hl (hl + 1#16))) ∧
    (encode .ldAAtHlInc = [0x2A#8] ∧ instrCycles .ldAAtHlInc = 8 ∧
      exec .ldAAtHlInc s = .next ({ t with a := s.memRead hl }.setPair .hl (hl + 1#16))) ∧
    (encode .ldAtHlDecA = [0x32#8] ∧ instrCycles .ldAtHlDecA = 8 ∧
      exec .ldAtHlDecA s = .next ((t.memWrite hl s.a).setPair .hl (hl - 1#16))) ∧
    (encode .ldAAtHlDec = [0x3A#8] ∧ instrCycles .ldAAtHlDec = 8 ∧
      exec .ldAAtHlDec s = .next ({ t with a := s.memRead hl }.setPair .hl (hl - 1#16)))

/-- R190 to R192: LD rr,nn and LD (nn),SP and LD SP,HL. -/
def Obligations.SixteenBitLoads : Prop :=
  (∀ (p : Pair) (nn : Word) (s : State),
    encode (.ldPairNn p nn) = [BitVec.ofNat 8 (0x01 + 16 * p.field), loByte nn, hiByte nn] ∧
    instrCycles (.ldPairNn p nn) = 12 ∧
    exec (.ldPairNn p nn) s = .next ({ s with pc := s.pc + 3#16 }.setPair p nn)) ∧
  (∀ (nn : Word) (s : State),
    encode (.ldAtNnSp nn) = [0x08#8, loByte nn, hiByte nn] ∧ instrCycles (.ldAtNnSp nn) = 20 ∧
    exec (.ldAtNnSp nn) s =
      .next (({ s with pc := s.pc + 3#16 }.memWrite nn (loByte s.sp)).memWrite (nn + 1#16) (hiByte s.sp))) ∧
  (∀ s : State,
    encode .ldSpHl = [0xF9#8] ∧ instrCycles .ldSpHl = 8 ∧
    exec .ldSpHl s = .next { s with pc := s.pc + 1#16, sp := s.pair .hl })

/-- R193 and R231: SP plus a signed byte into HL or SP; Z = N = 0, H and C from the unsigned sum of the low byte of SP and
the raw byte. The low-byte rule for H and C is the spec's own choice (D32). -/
def Obligations.StackPointerDisplacement : Prop :=
  ∀ (e : Byte) (s : State),
    let sum : Word := BitVec.ofInt 16 (s.sp.toNat + e.toInt)
    let f : Flags :=
      { z := false
        n := false
        h := decide (s.sp.toNat % 16 + e.toNat % 16 > 0xF)
        c := decide (s.sp.toNat % 256 + e.toNat > 0xFF) }
    (encode (.ldHlSpDisp e) = [0xF8#8, e] ∧ instrCycles (.ldHlSpDisp e) = 12 ∧
      exec (.ldHlSpDisp e) s = .next ({ s with pc := s.pc + 2#16, f := f }.setPair .hl sum)) ∧
    (encode (.addSpDisp e) = [0xE8#8, e] ∧ instrCycles (.addSpDisp e) = 16 ∧
      exec (.addSpDisp e) s = .next { s with pc := s.pc + 2#16, f := f, sp := sum })

/-- R201 and R202: ADD and ADC on a register, (HL) and an immediate; ADC adds the carry, in the half-carry too. That the
carry takes part in both carries of ADC is the spec's own, from general knowledge (R202). -/
def Obligations.AddAndAdc : Prop :=
  ∀ (o : Operand8) (n : Byte) (s : State),
    let add (len : Nat) (x : Byte) (c : Nat) : State :=
      s.withResult len (BitVec.ofNat 8 (s.a.toNat + x.toNat + c))
        (decide ((s.a.toNat + x.toNat + c) % 256 = 0)) false
        (decide (s.a.toNat % 16 + x.toNat % 16 + c > 0xF)) (decide (s.a.toNat + x.toNat + c > 0xFF))
    (encode (.aluR .add o) = [BitVec.ofNat 8 (0x80 + o.field)] ∧ instrCycles (.aluR .add o) = (if o = .atHl then 8 else 4) ∧
      exec (.aluR .add o) s = .next (add 1 (s.operand o) 0)) ∧
    (encode (.aluN .add n) = [0xC6#8, n] ∧ instrCycles (.aluN .add n) = 8 ∧ exec (.aluN .add n) s = .next (add 2 n 0)) ∧
    (encode (.aluR .adc o) = [BitVec.ofNat 8 (0x88 + o.field)] ∧ instrCycles (.aluR .adc o) = (if o = .atHl then 8 else 4) ∧
      exec (.aluR .adc o) s = .next (add 1 (s.operand o) (bit01 s.f.c))) ∧
    (encode (.aluN .adc n) = [0xCE#8, n] ∧ instrCycles (.aluN .adc n) = 8 ∧
      exec (.aluN .adc n) s = .next (add 2 n (bit01 s.f.c)))

/-- R203 and R208: SUB and CP on a register, (HL) and an immediate; CP keeps A and gives the flags of SUB. H as the borrow
from bit 4 and CP as SUB are the spec's own choices (D42). -/
def Obligations.SubAndCp : Prop :=
  ∀ (o : Operand8) (n : Byte) (s : State),
    let sub (len : Nat) (keep : Bool) (x : Byte) : State :=
      s.withResult len (if keep then s.a else BitVec.ofInt 8 (s.a.toNat - x.toNat)) (decide (s.a = x)) true
        (decide (s.a.toNat % 16 < x.toNat % 16)) (decide (s.a.toNat < x.toNat))
    (encode (.aluR .sub o) = [BitVec.ofNat 8 (0x90 + o.field)] ∧ instrCycles (.aluR .sub o) = (if o = .atHl then 8 else 4) ∧
      exec (.aluR .sub o) s = .next (sub 1 false (s.operand o))) ∧
    (encode (.aluN .sub n) = [0xD6#8, n] ∧ instrCycles (.aluN .sub n) = 8 ∧
      exec (.aluN .sub n) s = .next (sub 2 false n)) ∧
    (encode (.aluR .cp o) = [BitVec.ofNat 8 (0xB8 + o.field)] ∧ instrCycles (.aluR .cp o) = (if o = .atHl then 8 else 4) ∧
      exec (.aluR .cp o) s = .next (sub 1 true (s.operand o))) ∧
    (encode (.aluN .cp n) = [0xFE#8, n] ∧ instrCycles (.aluN .cp n) = 8 ∧
      exec (.aluN .cp n) s = .next (sub 2 true n))

/-- R204: SBC on a register, (HL) and an immediate; with STUB_OPTIONAL it raises IllegalInstruction instead, after the
opcode byte only. The whole of SBC is the spec's own choice (D3). -/
def Obligations.SbcOrStub : Prop :=
  ∀ (o : Operand8) (n : Byte) (s : State),
    let sbc (len : Nat) (x : Byte) : State :=
      s.withResult len (BitVec.ofInt 8 (s.a.toNat - x.toNat - bit01 s.f.c))
        (decide (BitVec.ofInt 8 (s.a.toNat - x.toNat - bit01 s.f.c) = 0#8)) true
        (decide (s.a.toNat % 16 < x.toNat % 16 + bit01 s.f.c)) (decide (s.a.toNat < x.toNat + bit01 s.f.c))
    let stub (op : Byte) : State :=
      { s with pc := s.pc + 1#16, fault := some { opcode := .primary op, addr := s.pc } }
    (encode (.aluR .sbc o) = [BitVec.ofNat 8 (0x98 + o.field)] ∧ instrCycles (.aluR .sbc o) = (if o = .atHl then 8 else 4) ∧
      exec (.aluR .sbc o) s =
        .next (if s.config.stubOptional then stub (BitVec.ofNat 8 (0x98 + o.field)) else sbc 1 (s.operand o))) ∧
    (encode (.aluN .sbc n) = [0xDE#8, n] ∧ instrCycles (.aluN .sbc n) = 8 ∧
      exec (.aluN .sbc n) s = .next (if s.config.stubOptional then stub 0xDE#8 else sbc 2 n))

/-- R205 to R207: AND, XOR and OR on a register, (HL) and an immediate. The flags H, N and C are the spec's own choices
(D42). -/
def Obligations.LogicOperations : Prop :=
  ∀ (o : Operand8) (n : Byte) (s : State),
    let res (len : Nat) (v : Byte) (h : Bool) : State := s.withResult len v (decide (v = 0#8)) false h false
    (encode (.aluR .and o) = [BitVec.ofNat 8 (0xA0 + o.field)] ∧ instrCycles (.aluR .and o) = (if o = .atHl then 8 else 4) ∧
      exec (.aluR .and o) s = .next (res 1 (s.a &&& s.operand o) true)) ∧
    (encode (.aluN .and n) = [0xE6#8, n] ∧ instrCycles (.aluN .and n) = 8 ∧
      exec (.aluN .and n) s = .next (res 2 (s.a &&& n) true)) ∧
    (encode (.aluR .xor o) = [BitVec.ofNat 8 (0xA8 + o.field)] ∧ instrCycles (.aluR .xor o) = (if o = .atHl then 8 else 4) ∧
      exec (.aluR .xor o) s = .next (res 1 (s.a ^^^ s.operand o) false)) ∧
    (encode (.aluN .xor n) = [0xEE#8, n] ∧ instrCycles (.aluN .xor n) = 8 ∧
      exec (.aluN .xor n) s = .next (res 2 (s.a ^^^ n) false)) ∧
    (encode (.aluR .or o) = [BitVec.ofNat 8 (0xB0 + o.field)] ∧ instrCycles (.aluR .or o) = (if o = .atHl then 8 else 4) ∧
      exec (.aluR .or o) s = .next (res 1 (s.a ||| s.operand o) false)) ∧
    (encode (.aluN .or n) = [0xF6#8, n] ∧ instrCycles (.aluN .or n) = 8 ∧
      exec (.aluN .or n) s = .next (res 2 (s.a ||| n) false))

/-- R209 to R212: INC and DEC on a register and on (HL), one read and one write; C is kept, and the flags come from the
value written. That C is kept is the spec's own choice (D42). -/
def Obligations.IncrementDecrementByte : Prop :=
  ∀ (o : Operand8) (s : State),
    let v := s.operand o
    (encode (.incR o) = [BitVec.ofNat 8 (0x04 + 8 * o.field)] ∧ instrCycles (.incR o) = (if o = .atHl then 12 else 4) ∧
      exec (.incR o) s =
        .next { { s with pc := s.pc + 1#16 }.setOperand o (BitVec.ofNat 8 (v.toNat + 1)) with
          f := { z := decide (v.toNat = 0xFF), n := false, h := decide (v.toNat % 16 = 0xF), c := s.f.c } }) ∧
    (encode (.decR o) = [BitVec.ofNat 8 (0x05 + 8 * o.field)] ∧ instrCycles (.decR o) = (if o = .atHl then 12 else 4) ∧
      exec (.decR o) s =
        .next { { s with pc := s.pc + 1#16 }.setOperand o (BitVec.ofInt 8 (v.toNat - 1)) with
          f := { z := decide (v.toNat = 1), n := true, h := decide (v.toNat % 16 = 0), c := s.f.c } })

/-- R230: ADD HL,rr; Z is kept, H is the carry out of bit 11, C the carry out of bit 15, and ADD HL,HL reads HL first. The
half-carry at bit 11 and the kept Z are the spec's own choices (D42). -/
def Obligations.AddToHl : Prop :=
  ∀ (p : Pair) (s : State),
    let hl := (s.pair .hl).toNat
    let v := (s.pair p).toNat
    encode (.addHlPair p) = [BitVec.ofNat 8 (0x09 + 16 * p.field)] ∧ instrCycles (.addHlPair p) = 8 ∧
    exec (.addHlPair p) s =
      .next ({ s with
        pc := s.pc + 1#16
        f := { z := s.f.z, n := false, h := decide (hl % 4096 + v % 4096 > 0xFFF), c := decide (hl + v > 0xFFFF) } }.setPair
          .hl (BitVec.ofNat 16 (hl + v)))

/-- R232 and R233: INC rr and DEC rr wrap and change no flag. That no flag changes is the spec's own choice (D42). -/
def Obligations.IncrementDecrementPair : Prop :=
  ∀ (p : Pair) (s : State),
    (encode (.incPair p) = [BitVec.ofNat 8 (0x03 + 16 * p.field)] ∧ instrCycles (.incPair p) = 8 ∧
      exec (.incPair p) s = .next ({ s with pc := s.pc + 1#16 }.setPair p (BitVec.ofNat 16 ((s.pair p).toNat + 1)))) ∧
    (encode (.decPair p) = [BitVec.ofNat 8 (0x0B + 16 * p.field)] ∧ instrCycles (.decPair p) = 8 ∧
      exec (.decPair p) s = .next ({ s with pc := s.pc + 1#16 }.setPair p (BitVec.ofInt 16 ((s.pair p).toNat - 1))))

/-- R241 to R243: PUSH rr, POP rr and POP AF; SP moves by two, the low byte lies at the lower address, and popping AF drops
the low nibble of the byte read into F. The places of the two bytes and the masked nibble are the spec's own choices (D7,
D38). -/
def Obligations.PushAndPop : Prop :=
  (∀ (p : StackPair) (s : State),
    encode (.pushPair p) = [BitVec.ofNat 8 (0xC5 + 16 * p.field)] ∧ instrCycles (.pushPair p) = 16 ∧
    exec (.pushPair p) s =
      .next (({ s with pc := s.pc + 1#16, sp := s.sp - 2#16 }.memWrite (s.sp - 2#16) (loByte (s.stackPair p))).memWrite
        (s.sp - 1#16) (hiByte (s.stackPair p)))) ∧
  (∀ (p : StackPair) (s : State),
    encode (.popPair p) = [BitVec.ofNat 8 (0xC1 + 16 * p.field)] ∧ instrCycles (.popPair p) = 12 ∧
    exec (.popPair p) s =
      .next ({ s with pc := s.pc + 1#16, sp := s.sp + 2#16 }.setStackPair p
        (wordOf (s.memRead (s.sp + 1#16)) (s.memRead s.sp)))) ∧
  (∀ s : State,
    let v := s.memRead s.sp
    exec .popAf s =
      .next { s with
        pc := s.pc + 1#16
        sp := s.sp + 2#16
        a := s.memRead (s.sp + 1#16)
        f := { z := bitAt v 7, n := bitAt v 6, h := bitAt v 5, c := bitAt v 4 } })

/-- The round trip of R240: where both bytes land in storage, PUSH and then POP of the same pair give back every register, F
included, and SP. -/
def Obligations.PushPopRoundTrip : Prop :=
  ∀ (p : StackPair) (s : State), s.hooks = HookRegistry.atReset → s.Keeps (s.sp - 2#16) → s.Keeps (s.sp - 1#16) →
    ∃ t u, exec (.pushPair p) s = .next t ∧ exec (.popPair p) t = .next u ∧ t.sp = s.sp - 2#16 ∧
      u = { t with pc := s.pc + 2#16, sp := s.sp } ∧ (∀ r, u.reg r = s.reg r) ∧ u.f = s.f

/-- R251 to R253 and the conditions of R250 (b): JP nn, JP cc,nn, taken or not, and JP (HL), which reads no memory. -/
def Obligations.AbsoluteJumps : Prop :=
  (∀ f : Flags, condHolds .nz f = !f.z ∧ condHolds .z f = f.z ∧ condHolds .nc f = !f.c ∧ condHolds .c f = f.c) ∧
  (∀ (nn : Word) (s : State),
    encode (.jpNn nn) = [0xC3#8, loByte nn, hiByte nn] ∧ instrCycles (.jpNn nn) = 12 ∧
    exec (.jpNn nn) s = .next { s with pc := nn }) ∧
  (∀ (k : Cond) (nn : Word) (s : State),
    encode (.jpCc k nn) = [BitVec.ofNat 8 (0xC2 + 8 * k.field), loByte nn, hiByte nn] ∧ instrCycles (.jpCc k nn) = 12 ∧
    exec (.jpCc k nn) s = .next { s with pc := if condHolds k s.f then nn else s.pc + 3#16 }) ∧
  (∀ s : State,
    encode .jpAtHl = [0xE9#8] ∧ instrCycles .jpAtHl = 4 ∧ exec .jpAtHl s = .next { s with pc := s.pair .hl })

/-- R254 and R255: JR e and JR cc,e; the target is the address after the two bytes plus the signed displacement. -/
def Obligations.RelativeJumps : Prop :=
  ∀ (k : Cond) (e : Byte) (s : State),
    let target : Word := BitVec.ofInt 16 (s.pc.toNat + 2 + e.toInt)
    (encode (.jrDisp e) = [0x18#8, e] ∧ instrCycles (.jrDisp e) = 8 ∧
      exec (.jrDisp e) s = .next { s with pc := target }) ∧
    (encode (.jrCc k e) = [BitVec.ofNat 8 (0x20 + 8 * k.field), e] ∧ instrCycles (.jrCc k e) = 8 ∧
      exec (.jrCc k e) s = .next { s with pc := if condHolds k s.f then target else s.pc + 2#16 })

/-- R256 and R257: CALL nn and CALL cc,nn push the address after the three bytes; not taken, nothing but PC moves. -/
def Obligations.Calls : Prop :=
  ∀ (k : Cond) (nn : Word) (s : State),
    let called : State :=
      { (({ s with sp := s.sp - 2#16 }.memWrite (s.sp - 2#16) (loByte (s.pc + 3#16))).memWrite (s.sp - 1#16)
          (hiByte (s.pc + 3#16))) with
        pc := nn }
    (encode (.callNn nn) = [0xCD#8, loByte nn, hiByte nn] ∧ instrCycles (.callNn nn) = 12 ∧
      exec (.callNn nn) s = .next called) ∧
    (encode (.callCc k nn) = [BitVec.ofNat 8 (0xC4 + 8 * k.field), loByte nn, hiByte nn] ∧
      instrCycles (.callCc k nn) = 12 ∧
      exec (.callCc k nn) s = .next (if condHolds k s.f then called else { s with pc := s.pc + 3#16 }))

/-- R258 to R260: RET, RET cc and RETI; RETI also sets IME. RETI and the moment IME is set are the spec's own choice (D9).
-/
def Obligations.Returns : Prop :=
  ∀ (k : Cond) (s : State),
    let returned : State :=
      { s with pc := wordOf (s.memRead (s.sp + 1#16)) (s.memRead s.sp), sp := s.sp + 2#16 }
    (encode .ret = [0xC9#8] ∧ instrCycles .ret = 8 ∧ exec .ret s = .next returned) ∧
    (encode (.retCc k) = [BitVec.ofNat 8 (0xC0 + 8 * k.field)] ∧ instrCycles (.retCc k) = 8 ∧
      exec (.retCc k) s = .next (if condHolds k s.f then returned else { s with pc := s.pc + 1#16 })) ∧
    (encode .reti = [0xD9#8] ∧ instrCycles .reti = 8 ∧ exec .reti s = .next { returned with ime := true })

/-- R261: RST pushes the address after the opcode byte and goes to eight times the field y. -/
def Obligations.Restarts : Prop :=
  ∀ (y : Index8) (s : State),
    encode (.rstAt y) = [BitVec.ofNat 8 (0xC7 + 8 * y.toNat)] ∧ instrCycles (.rstAt y) = 32 ∧
    exec (.rstAt y) s =
      .next { (({ s with sp := s.sp - 2#16 }.memWrite (s.sp - 2#16) (loByte (s.pc + 1#16))).memWrite (s.sp - 1#16)
          (hiByte (s.pc + 1#16))) with
        pc := BitVec.ofNat 16 (8 * y.toNat) }

/-- R270 to R273: the four rotates of A; Z is computed from the result (90_conflicts.md C13). -/
def Obligations.AccumulatorRotates : Prop :=
  ∀ s : State,
    let res (v : Byte) (c : Bool) : State := s.withResult 1 v (decide (v = 0#8)) false false c
    let carry : Byte := if s.f.c then 0x01#8 else 0x00#8
    (encode .rlca = [0x07#8] ∧ instrCycles .rlca = 4 ∧ exec .rlca s = .next (res (s.a.rotateLeft 1) (s.a.getLsbD 7))) ∧
    (encode .rla = [0x17#8] ∧ instrCycles .rla = 4 ∧
      exec .rla s = .next (res (s.a <<< 1 ||| carry) (s.a.getLsbD 7))) ∧
    (encode .rrca = [0x0F#8] ∧ instrCycles .rrca = 4 ∧ exec .rrca s = .next (res (s.a.rotateRight 1) (s.a.getLsbD 0))) ∧
    (encode .rra = [0x1F#8] ∧ instrCycles .rra = 4 ∧
      exec .rra s = .next (res (s.a >>> 1 ||| carry <<< 7) (s.a.getLsbD 0)))

/-- R274 to R282: the rotates, shifts and SWAP of the extended table on a register and on (HL); the flags come from the
value produced. SRA keeping bit 7 and SWAP clearing C are the spec's own (R280, D42). -/
def Obligations.ExtendedRotates : Prop :=
  ∀ (o : Operand8) (s : State),
    let v := s.operand o
    let carry : Byte := if s.f.c then 0x01#8 else 0x00#8
    let does (op : RotOp) (w : Byte) (c : Bool) : Prop :=
      encode (.rotR op o) = [0xCB#8, BitVec.ofNat 8 (8 * op.field + o.field)] ∧
      instrCycles (.rotR op o) = (if o = .atHl then 16 else 8) ∧
      exec (.rotR op o) s =
        .next { { s with pc := s.pc + 2#16 }.setOperand o w with
          f := { z := decide (w = 0#8), n := false, h := false, c := c } }
    does .rlc (v.rotateLeft 1) (v.getLsbD 7) ∧
    does .rrc (v.rotateRight 1) (v.getLsbD 0) ∧
    does .rl (v <<< 1 ||| carry) (v.getLsbD 7) ∧
    does .rr (v >>> 1 ||| carry <<< 7) (v.getLsbD 0) ∧
    does .sla (v <<< 1) (v.getLsbD 7) ∧
    does .sra (v.sshiftRight 1) (v.getLsbD 0) ∧
    does .swap (v.rotateLeft 4) false ∧
    does .srl (v >>> 1) (v.getLsbD 0)

/-- R283: BIT sets Z when the tested bit is clear, sets H, clears N, keeps C, and writes no operand. -/
def Obligations.BitTest : Prop :=
  ∀ (b : Index8) (o : Operand8) (s : State),
    encode (.bitR b o) = [0xCB#8, BitVec.ofNat 8 (0x40 + 8 * b.toNat + o.field)] ∧
    instrCycles (.bitR b o) = (if o = .atHl then 16 else 8) ∧
    exec (.bitR b o) s =
      .next { s with
        pc := s.pc + 2#16
        f := { z := decide ((s.operand o).toNat / 2 ^ b.toNat % 2 = 0), n := false, h := true, c := s.f.c } }

/-- R284 and R285: RES and SET on a register and on (HL), no flag changed; with STUB_OPTIONAL they raise IllegalInstruction
instead, after both opcode bytes. The whole of both is the spec's own choice (D3). -/
def Obligations.ResetAndSetBit : Prop :=
  ∀ (b : Index8) (o : Operand8) (s : State),
    let v := s.operand o
    let does (i : Instr) (op2 : Byte) (w : Byte) : Prop :=
      encode i = [0xCB#8, op2] ∧ instrCycles i = (if o = .atHl then 16 else 8) ∧
      exec i s =
        .next (if s.config.stubOptional then
            { s with pc := s.pc + 2#16, fault := some { opcode := .extended op2, addr := s.pc } }
          else { s with pc := s.pc + 2#16 }.setOperand o w)
    does (.resR b o) (BitVec.ofNat 8 (0x80 + 8 * b.toNat + o.field))
      (BitVec.ofNat 8 (v.toNat - (if v.toNat / 2 ^ b.toNat % 2 = 1 then 2 ^ b.toNat else 0))) ∧
    does (.setR b o) (BitVec.ofNat 8 (0xC0 + 8 * b.toNat + o.field))
      (BitVec.ofNat 8 (v.toNat + (if v.toNat / 2 ^ b.toNat % 2 = 1 then 0 else 2 ^ b.toNat)))

/-- R286: DAA; both tests use the A from before, N is kept, and after a subtraction C keeps its value. The correction is the
spec's own choice (D8). -/
def Obligations.DecimalAdjust : Prop :=
  ∀ s : State,
    let low : Bool := s.f.h || (!s.f.n && decide (s.a.toNat % 16 > 9))
    let high : Bool := s.f.c || (!s.f.n && decide (s.a.toNat > 0x99))
    let adj : Nat := (if low then 0x06 else 0) + (if high then 0x60 else 0)
    let v : Byte := BitVec.ofInt 8 (if s.f.n then (s.a.toNat : Int) - adj else (s.a.toNat : Int) + adj)
    encode .daa = [0x27#8] ∧ instrCycles .daa = 4 ∧
    exec .daa s = .next (s.withResult 1 v (decide (v = 0#8)) s.f.n false high)

/-- What DAA is for: after ADD or SUB of two packed decimal bytes it leaves the packed decimal sum or difference, with the
decimal carry or borrow in C (the complete check of 95_test_vectors.md 2.7). The correction is the spec's own choice (D8).
-/
def Obligations.BcdArithmetic : Prop :=
  ∀ (x y : Nat) (s : State), x < 100 → y < 100 →
    let bcd (n : Nat) : Byte := BitVec.ofNat 8 (16 * (n / 10) + n % 10)
    s.a = bcd x →
      (∃ t u, exec (.addAN (bcd y)) s = .next t ∧ exec .daa t = .next u ∧
        u.a = bcd ((x + y) % 100) ∧ (u.f.c = true ↔ 100 ≤ x + y)) ∧
      (∃ t u, exec (.subN (bcd y)) s = .next t ∧ exec .daa t = .next u ∧
        u.a = bcd ((x + 100 - y) % 100) ∧ (u.f.c = true ↔ x < y))

/-- R287 to R289: CPL, SCF and CCF; complementing twice gives A back. The flags of SCF and CCF are the spec's own choices
(D42). -/
def Obligations.ComplementAndCarry : Prop :=
  ∀ s : State,
    (encode .cpl = [0x2F#8] ∧ instrCycles .cpl = 4 ∧
      exec .cpl s = .next (s.withResult 1 (0xFF#8 - s.a) s.f.z true true s.f.c) ∧
      ∃ t u, exec .cpl s = .next t ∧ exec .cpl t = .next u ∧ u.a = s.a) ∧
    (encode .scf = [0x37#8] ∧ instrCycles .scf = 4 ∧
      exec .scf s = .next (s.withResult 1 s.a s.f.z false false true)) ∧
    (encode .ccf = [0x3F#8] ∧ instrCycles .ccf = 4 ∧
      exec .ccf s = .next (s.withResult 1 s.a s.f.z false false (!s.f.c)))

/-- R310: NOP advances PC by 1 and consumes 4 cycles, and changes nothing else. -/
def Obligations.NoOperation : Prop :=
  ∀ s : State, encode .nop = [0x00#8] ∧ instrCycles .nop = 4 ∧ exec .nop s = .next { s with pc := s.pc + 1#16 }

/-- HALT and STOP are one byte and only set their bit (R311, R312: the parts about the instructions themselves; what waits
afterwards is `StuckTickIsIdentity`). STOP's effect is the spec's own choice (D11). -/
def Obligations.HaltAndStop : Prop :=
  ∀ s : State,
    (encode .halt = [0x76#8] ∧ instrCycles .halt = 4 ∧
      exec .halt s = .next { s with pc := s.pc + 1#16, halted := true }) ∧
    (encode .stop = [0x10#8] ∧ instrCycles .stop = 4 ∧
      exec .stop s = .next { s with pc := s.pc + 1#16, stopped := true })

/-- R313 and R314: DI and EI change IME alone, and at once: the dispatch that follows sees the new value (the spec's decision
D9 for EI). -/
def Obligations.DisableAndEnableInterrupts : Prop :=
  (∀ s : State,
    encode .di = [0xF3#8] ∧ instrCycles .di = 4 ∧ exec .di s = .next { s with pc := s.pc + 1#16, ime := false }) ∧
  (∀ s : State,
    encode .ei = [0xFB#8] ∧ instrCycles .ei = 4 ∧ exec .ei s = .next { s with pc := s.pc + 1#16, ime := true }) ∧
  (∀ s : State, s.ime = false → s.executeInterrupts = (s, 0)) ∧
  (∀ s : State, s.ime = true → s.stopped = false → s.pendingSources ≠ 0#8 → ∃ k, s.executeInterrupts = (s.takeInterrupt k, 5))

/-- The entry byte 0xCB is no instruction: the byte after it selects one of the extended table. The row PREFIX_CB of the opcode
table runs that one (the model's choice, log entry 4). -/
def Obligations.PrefixRunsExtended : Prop :=
  (∀ (op2 : Byte) (rest : List Byte), decode (0xCB#8 :: op2 :: rest) = .ok (decodeExtended op2, rest)) ∧
  decode [0xCB#8] = .error .truncated ∧
  (∀ s : State, ∃ t, exec (decodeExtended (s.memRead (s.pc + 1#16))) s = .next t ∧ exec .prefixCb s = .next t)

/-- An opcode without a handler latches the fault record with PC past the opcode and nothing else changed (R316, and R381
with the spec's own choice D30); with STUB_OPTIONAL the encodings of SBC, RES and SET do the same (the spec's own choice
D3). That nothing else of the faulting tick runs and that every later step answers the fault is R381's effect (D30) as the
model reads it: the instruction answers a next state and the step after it the fault (log entry 5, DEDUCED), and the tick's
result is the field `tickResult` (log entry 11, DESIGN CHOICE). -/
def Obligations.IllegalOpcodesFault : Prop :=
  illegalOpcodes.map (·.2) =
    [0xD3#8, 0xDB#8, 0xDD#8, 0xE3#8, 0xE4#8, 0xEB#8, 0xEC#8, 0xED#8, 0xF4#8, 0xFC#8, 0xFD#8] ∧
  (∀ p ∈ illegalOpcodes, ∀ s : State,
    encode p.1 = [p.2] ∧ decode [p.2] = .ok (p.1, []) ∧
    exec p.1 s = .next { s with pc := s.pc + 1#16, fault := some { opcode := .primary p.2, addr := s.pc } }) ∧
  (∀ (s : State) (o : Operand8) (n : Byte) (b : Index8), s.config.stubOptional = true →
    let faulted (len : Nat) (op : OpcodeValue) : State :=
      { s with pc := s.pc + BitVec.ofNat 16 len, fault := some { opcode := op, addr := s.pc } }
    exec (.aluR .sbc o) s = .next (faulted 1 (.primary (BitVec.ofNat 8 (0x98 + o.field)))) ∧
    exec (.aluN .sbc n) s = .next (faulted 1 (.primary 0xDE#8)) ∧
    exec (.resR b o) s = .next (faulted 2 (.extended (BitVec.ofNat 8 (0x80 + 8 * b.toNat + o.field)))) ∧
    exec (.setR b o) s = .next (faulted 2 (.extended (BitVec.ofNat 8 (0xC0 + 8 * b.toNat + o.field))))) ∧
  (∀ (s : State) (record : IllegalInstruction) (cost : Nat), s.fault = some record →
    s.finishTick cost = { s with tickResult := .faulted } ∧ step s = .fault (.illegalInstruction record))

/-- No instruction but the illegal opcodes and, with STUB_OPTIONAL, the optional instructions changes the fault record
(R383; the stubs are the spec's own choice D3). Every `exec` answers a next state: of the other instructions R383 says that
they complete; that an illegal or stubbed one answers a next state too, with the fault latched, is log entry 5 (DEDUCED),
and that the bare entry byte does is log entry 4 (DESIGN CHOICE). -/
def Obligations.OnlyIllegalOpcodesFault : Prop :=
  ∀ (i : Instr) (s : State), ∃ t, exec i s = .next t ∧
    (t.fault = s.fault ∨ (∃ op, (i, op) ∈ illegalOpcodes) ∨ (s.config.stubOptional = true ∧ optionalInstr i))

/-- What an instruction can change besides A to L, F, PC, SP and memory (R27 to R31, R35 to R39, R45, R47): IME only by DI,
EI and RETI; `halted` and `stopped` only by HALT and STOP, which set them; the fault record only by an illegal opcode and,
with STUB_OPTIONAL, an optional instruction (the entry byte may select one, log entry 4); the banking state only by a store
below 0x8000; the line only by a store to LY; and everything else never. -/
def Obligations.ControlStateFrame : Prop :=
  ∀ (i : Instr) (s t : State), s.hooks = HookRegistry.atReset → exec i s = .next t →
    (t.ime = s.ime ∨ (i = .di ∧ t.ime = false) ∨ ((i = .ei ∨ i = .reti) ∧ t.ime = true)) ∧
    (t.halted = s.halted ∨ (i = .halt ∧ t.halted = true)) ∧
    (t.stopped = s.stopped ∨ (i = .stop ∧ t.stopped = true)) ∧
    (t.fault = s.fault ∨ (∃ op, (i, op) ∈ illegalOpcodes) ∨ (s.config.stubOptional = true ∧ optionalInstr i)) ∧
    ((t.romBank = s.romBank ∧ t.ramBank = s.ramBank ∧ t.ramEnabled = s.ramEnabled) ∨
      (s.header.mbcMode = .simple ∧ ∃ w ∈ storesOf i s, w.1.toNat < 0x8000)) ∧
    (t.line = s.line ∨ (t.line = 0 ∧ ∃ w ∈ storesOf i s, w.1 = lyAddr)) ∧
    t.mode = s.mode ∧ t.clock = s.clock ∧ t.canvas = s.canvas ∧ t.frames = s.frames ∧ t.breakNext = s.breakNext ∧
    t.overlayActive = s.overlayActive ∧ t.hooks = s.hooks ∧ t.cart = s.cart ∧ t.header = s.header ∧
    t.bootOverlay = s.bootOverlay ∧ t.config = s.config ∧ t.tickResult = s.tickResult

/-- The memory frame of every instruction: `storesOf` computes the addresses it stores to, and every address that shares no
cell with one of them, in a window no bank command moved, reads as before. An instruction that stores nothing leaves every
address as it was. -/
def Obligations.MemoryFrame : Prop :=
  ∀ (i : Instr) (s t : State) (b : Word), s.hooks = HookRegistry.atReset → exec i s = .next t →
    (∀ w ∈ storesOf i s, echoIndex w.1 ≠ echoIndex b ∧
      (0x8000 ≤ w.1.toNat ∨ b.toNat < 0x4000 ∨ (0x8000 ≤ b.toNat ∧ ¬(0xA000 ≤ b.toNat ∧ b.toNat ≤ 0xBFFF)))) →
    t.memRead b = s.memRead b

/-- The hooked read, range by range (R70): the boot overlay, the fixed bank (R64), the switchable window, external RAM, the
backing array with its echo. The window's formula is the spec's own choice D17 (R68). External RAM as a store of its own,
and what it reads while disabled or absent, are the spec's own choice D18 (R72), the one byte of log entry 16 (DEDUCED). -/
def Obligations.BusRead : Prop :=
  ∀ (s : State) (a : Word),
    (a.toNat ≤ 0x00FF → s.overlayActive = true → s.memRead a = (s.bootOverlay.getD []).get a.toNat) ∧
    (a.toNat ≤ 0x00FF → s.overlayActive = false → s.memRead a = s.cart.bytes.get a.toNat) ∧
    (0x0100 ≤ a.toNat → a.toNat ≤ 0x3FFF → s.memRead a = s.cart.bytes.get a.toNat) ∧
    (0x4000 ≤ a.toNat → a.toNat ≤ 0x7FFF → s.memRead a = s.cart.bytes.get (s.romBank * 0x4000 + (a.toNat - 0x4000))) ∧
    (0xA000 ≤ a.toNat → a.toNat ≤ 0xBFFF → s.memRead a =
      if s.ramEnabled = true ∧ 0 < s.header.ramBanks then s.extram.get (s.ramBank * 0x2000 + (a.toNat - 0xA000))
      else s.config.extramOpenRead) ∧
    (0xE000 ≤ a.toNat → a.toNat ≤ 0xFDFF → s.memRead a = s.mem.get (a.toNat - 0x2000)) ∧
    ((0x8000 ≤ a.toNat ∧ a.toNat ≤ 0x9FFF) ∨ (0xC000 ≤ a.toNat ∧ a.toNat ≤ 0xDFFF) ∨ 0xFE00 ≤ a.toNat →
      s.memRead a = s.mem.get a.toNat)

/-- R74 and R76: a write below 0x8000 stores nothing; in mode none it has no effect, in mode simple it is the bank command
of its sub-range, the value masked to the bits the bank count needs and then taken modulo the count. The sub-ranges and the
commands are the spec's own choices (D16, D36). -/
def Obligations.BankControlWrites : Prop :=
  (∀ n : Nat, n ≤ 2 ^ bitsFor n ∧ ∀ k, n ≤ 2 ^ k → bitsFor n ≤ k) ∧
  (∀ (s : State) (a : Word) (v : Byte), s.hooks = HookRegistry.atReset → a.toNat ≤ 0x7FFF →
    (s.header.mbcMode = .none → s.memWrite a v = s) ∧
    (s.header.mbcMode = .simple →
      (a.toNat ≤ 0x1FFF → s.memWrite a v = { s with ramEnabled := decide (v.toNat % 16 = 0xA) }) ∧
      (0x2000 ≤ a.toNat → a.toNat ≤ 0x3FFF → 0 < s.header.romBanks → s.memWrite a v =
        { s with romBank := v.toNat % 2 ^ bitsFor s.header.romBanks % s.header.romBanks }) ∧
      (0x4000 ≤ a.toNat → a.toNat ≤ 0x5FFF → s.memWrite a v =
        { s with ramBank :=
          if s.header.ramBanks = 0 then 0 else v.toNat % 2 ^ bitsFor s.header.ramBanks % s.header.ramBanks }) ∧
      (0x6000 ≤ a.toNat → s.memWrite a v = s)))

/-- R63: a byte stored in storage is what its address and its echo read from then on, and every other address reads as
before; a store to external RAM that is absent or disabled does nothing (R72). What disabled external RAM does is the spec's
own choice (D18). -/
def Obligations.StoredByteReadsBack : Prop :=
  (∀ (s : State) (a b : Word) (v : Byte), s.hooks = HookRegistry.atReset → s.Keeps a →
    (s.memWrite a v).memRead b = if echoIndex b = echoIndex a then v else s.memRead b) ∧
  (∀ a b : Word, echoIndex a = echoIndex b ↔
    a = b ∨ (0xE000 ≤ a.toNat ∧ a.toNat ≤ 0xFDFF ∧ b.toNat = a.toNat - 0x2000) ∨
      (0xE000 ≤ b.toNat ∧ b.toNat ≤ 0xFDFF ∧ a.toNat = b.toNat - 0x2000)) ∧
  (∀ (s : State) (a : Word) (v : Byte), s.hooks = HookRegistry.atReset → 0xA000 ≤ a.toNat → a.toNat ≤ 0xBFFF →
    (s.ramEnabled = false ∨ s.header.ramBanks = 0) → s.memWrite a v = s)

/-- R80: a word access is two byte accesses, the low byte at the lower address and first, the address wrapping. The byte
order is the spec's own choice (D1). -/
def Obligations.WordAccessOrder : Prop :=
  ∀ (s : State) (a v : Word),
    (s.memRead16 a).toNat = (s.memRead (a + 1#16)).toNat * 256 + (s.memRead a).toNat ∧
    s.memWrite16 a v =
      (s.memWrite a (BitVec.ofNat 8 v.toNat)).memWrite (a + 1#16) (BitVec.ofNat 8 (v.toNat / 256)) ∧
    (0xFFFF#16 : Word) + 1#16 = 0x0000#16

/-- R345: any write to LY leaves 0 there and sets the scanline index to 0, with the mode, the clock and everything else as
it was; a write to any other address moves neither. That mode and clock stay, and that the hook runs after the store, are
the spec's own choices (D27, D22). -/
def Obligations.LyWriteHook : Prop :=
  (∀ (s : State) (v : Byte), s.hooks = HookRegistry.atReset →
    ∃ m : Memory, s.memWrite 0xFF44#16 v = { s with line := 0, mem := m } ∧
      ∀ j, m.get j = if j = 0xFF44 then 0x00#8 else s.mem.get j) ∧
  (∀ (s : State) (a : Word) (v : Byte), s.hooks = HookRegistry.atReset → a ≠ 0xFF44#16 →
    (s.memWrite a v).line = s.line ∧ (s.memWrite a v).mem.get 0xFF44 = s.mem.get 0xFF44)

/-- A step runs the decoded instruction (R120, R121, R400): the bytes at PC, read in the state at the fetch, decode to `i`;
`exec` runs it there; then the video engine gets its cycles, interrupts are dispatched, and the engine gets the cycles of
the dispatch. After a fault nothing of that runs. The composition is the spec's reference loop (D14). -/
def Obligations.StepRunsDecodedInstruction : Prop :=
  ∀ (s t : State) (i : Instr) (rest : List Byte), s.Running →
    decode [s.atFetch.memRead s.pc, s.atFetch.memRead (s.pc + 1#16), s.atFetch.memRead (s.pc + 2#16)] = .ok (i, rest) →
    exec i s.atFetch = .next t →
      (t.fault = none →
        let cost := cycleCost s.config (opcodeOfBytes (s.atFetch.memRead s.pc) (s.atFetch.memRead (s.pc + 1#16)))
        let u := ({ t with breakNext := false }.advance cost).executeInterrupts
        step s = .next { u.1.advance u.2 with tickResult := if t.breakNext then .stopRequested else .running }) ∧
      (t.fault ≠ none → step s = .next { t with tickResult := .faulted })

/-- The cost is a function of the opcode alone (R131). The cost charged for the instruction at PC is the one an override
gives its opcode where there is one, else the table's, which is `instrCycles` of the decoded instruction; an override names
a primary opcode by its byte and an extended one by 256 plus its second byte (log entry 8, DESIGN CHOICE). Under every
admitted table the cost lies in 4 to 32 for every opcode that has a handler. The values are the spec's own choice (D4). -/
def Obligations.CycleCosts : Prop :=
  (∀ s : State,
    let b0 := s.memRead s.pc
    let b1 := s.memRead (s.pc + 1#16)
    let number := if b0 = 0xCB#8 then 256 + b1.toNat else b0.toNat
    cycleCost s.config (opcodeOfBytes b0 b1) = s.fetchedCost ∧
    s.fetchedCost = (s.config.cycleOverrides.lookup number).getD (instrCycles s.fetched)) ∧
  (∀ s : State, s.config.cycleOverrides = [] → s.fetchedCost = instrCycles s.fetched) ∧
  (∀ (c : Config) (b : Byte), c.Admitted →
    (b ≠ 0xCB#8 → b ∉ illegalOpcodes.map (·.2) →
      4 ≤ cycleCost c (.primary b) ∧ cycleCost c (.primary b) ≤ 32) ∧
    4 ≤ cycleCost c (.extended b) ∧ cycleCost c (.extended b) ≤ 32)

/-- A stuck machine stays as it is (R444, R450 (b)): a tick of a halted or stopped CPU with nothing to dispatch changes
nothing but the break flag and the reported result, and the machine is stuck afterwards. What ends a halt and a stop is the
spec's own choice (D10, D11, D44). -/
def Obligations.StuckTickIsIdentity : Prop :=
  ∀ s : State, s.Inv → s.Stuck →
    step s = .next { s with breakNext := false, tickResult := if s.breakNext then .stopRequested else .running } ∧
    s.status = .stuck ∧
    State.Stuck { s with breakNext := false, tickResult := if s.breakNext then .stopRequested else .running }

/-- The break flag changes nothing the tick does, except that it is cleared and reported (R121). That waiting ticks honour
it is the spec's own choice D40. That a faulting tick neither examines nor clears it is R381's effect, the spec's own choice
D30, as the model reads it (log entry 5, DEDUCED); the reported result is the field of log entry 11. -/
def Obligations.BreakFlag : Prop :=
  ∀ (s t : State) (b : Bool), step s = .next t →
    (t.fault = none → t.breakNext = false ∧ t.tickResult = if s.breakNext then .stopRequested else .running) ∧
    (t.fault ≠ none → t.breakNext = s.breakNext ∧ t.tickResult = .faulted) ∧
    ∃ u, step { s with breakNext := b } = .next u ∧ u = { t with breakNext := u.breakNext, tickResult := u.tickResult }

/-- R388 to R390: the conditions and the priority of dispatch, and everything entry does: acknowledge, end a halt, clear
IME, push PC through the hooked bus, go to the vector, charge 5. The acknowledge, the end of a halt and the order are the
spec's own choices (D12, D10, D37). -/
def Obligations.InterruptDispatch : Prop :=
  ∀ s : State,
    let m := s.rawRead 0xFF0F#16 &&& s.rawRead 0xFFFF#16 &&& 0x1F#8
    (s.stopped = true → s.executeInterrupts = (s, 0)) ∧
    (s.ime = false → s.executeInterrupts = (s, 0)) ∧
    (m = 0#8 → s.executeInterrupts = (s, 0)) ∧
    (∀ (k : InterruptSource) (n : Nat), sourceBit k = n → s.stopped = false → s.ime = true → m.getLsbD n = true →
      (∀ j < n, m.getLsbD j = false) →
      s.executeInterrupts =
        ({ ((({ s.rawWrite 0xFF0F#16 (s.rawRead 0xFF0F#16 &&& ~~~(1#8 <<< n)) with
                halted := false, ime := false, sp := s.sp - 2#16 }).memWrite (s.sp - 2#16) (loByte s.pc)).memWrite
              (s.sp - 1#16) (hiByte s.pc)) with
            pc := BitVec.ofNat 16 (0x40 + 8 * n) }, 5)) ∧
    (sourceBit .vblank = 0 ∧ sourceBit .lcdStatus = 1 ∧ sourceBit .timer = 2 ∧ sourceBit .serial = 3 ∧
      sourceBit .joypad = 4)

/-- R386: posting sets the request bit and nothing else; it neither transfers control nor looks at IE or IME. The raw access
is the spec's own choice (D39). -/
def Obligations.InterruptPosting : Prop :=
  ∀ (s : State) (k : InterruptSource),
    ∃ m : Memory, s.postInterrupt k = { s with mem := m } ∧
      ∀ j, m.get j = if j = 0xFF0F then s.rawRead 0xFF0F#16 ||| BitVec.ofNat 8 (2 ^ sourceBit k) else s.mem.get j

/-- R331 to R338: every case of `Advance`. Display off: the restart state. On: the clock counts, and at the threshold of the
mode it goes to 0 and exactly one transition happens, with the LY write-back, the rendering of the line, and at line 144 the
frame and the V-blank request. The discarded overshoot, the LY write-back and the off state are the spec's own choices (D23,
D25). -/
def Obligations.VideoAdvance : Prop :=
  ∀ (s : State) (c : Nat),
    let at0 : State := { s with clock := 0 }
    let ly (t : State) (n : Nat) : State := { t with line := n }.rawWrite 0xFF44#16 (BitVec.ofNat 8 n)
    ((s.rawRead 0xFF40#16).getLsbD 7 = false → s.advance c = ly { at0 with mode := .oam } 0) ∧
    ((s.rawRead 0xFF40#16).getLsbD 7 = true →
      (s.mode = .oam →
        (s.clock + c < 80 → s.advance c = { s with clock := s.clock + c }) ∧
        (80 ≤ s.clock + c → s.advance c = { at0 with mode := .xfer })) ∧
      (s.mode = .xfer →
        (s.clock + c < 172 → s.advance c = { s with clock := s.clock + c }) ∧
        (172 ≤ s.clock + c → s.advance c = { at0.renderLine s.line with mode := .hblank })) ∧
      (s.mode = .hblank →
        (s.clock + c < 204 → s.advance c = { s with clock := s.clock + c }) ∧
        (204 ≤ s.clock + c → s.line ≠ 143 → s.advance c = { ly at0 (s.line + 1) with mode := .oam }) ∧
        (204 ≤ s.clock + c → s.line = 143 → s.advance c =
          { ly at0 144 with mode := .vblank, frames := s.frames ++ [s.canvas] }.postInterrupt .vblank)) ∧
      (s.mode = .vblank →
        (s.clock + c < 456 → s.advance c = { s with clock := s.clock + c }) ∧
        (456 ≤ s.clock + c → s.line < 153 → s.advance c = ly at0 (s.line + 1)) ∧
        (456 ≤ s.clock + c → 153 ≤ s.line → s.advance c = ly { at0 with mode := .oam } 0)))

/-- `RenderLine` changes one row of the canvas, and each of its 160 pixels is the grey the palette gives the colour index of
the scrolled background tile (R344, with R340 to R343). The register addresses and the layout of map and tiles are the
spec's own choice D24, the pixel's four bytes D26; that a line above 143, for which R344 is not called, would write the row
of its number is the model's choice, log entry 15. -/
def Obligations.RenderLinePixels : Prop :=
  ∀ (s : State) (ly x : Nat), x < 160 →
    let lcdc := s.rawRead 0xFF40#16
    let byCoord := (ly + (s.rawRead 0xFF42#16).toNat) % 256
    let bxCoord := (x + (s.rawRead 0xFF43#16).toNat) % 256
    let base := if lcdc.getLsbD 3 then 0x9C00 else 0x9800
    let idx := (s.rawRead (BitVec.ofNat 16 (base + byCoord / 8 * 32 + bxCoord / 8))).toNat
    let taddr := if lcdc.getLsbD 4 then 0x8000 + idx * 16 else 0x8800 + (if idx < 128 then idx + 128 else idx - 128) * 16
    let lo := (s.rawRead (BitVec.ofNat 16 (taddr + byCoord % 8 * 2))).toNat
    let hi := (s.rawRead (BitVec.ofNat 16 (taddr + byCoord % 8 * 2 + 1))).toNat
    let bit := 7 - bxCoord % 8
    let ci := 2 * (hi / 2 ^ bit % 2) + lo / 2 ^ bit % 2
    let shade := (s.rawRead 0xFF47#16).toNat / 2 ^ (2 * ci) % 4
    let grey : Byte := BitVec.ofNat 8 (255 - 85 * shade)
    ∃ c : Canvas, s.renderLine ly = { s with canvas := c } ∧
      c.pixel ly x = { r := grey, g := grey, b := grey, a := 0xFF#8 } ∧ ∀ row, row ≠ ly → c.row row = s.canvas.row row

/-- R430 and R50: reset fails exactly where the cartridge does not load; otherwise every piece of state has the value the
table of R50 gives it, the unspecified ones from `INIT`. The values are the spec's own choice (D29). -/
def Obligations.PowerOnValues : Prop :=
  ∀ p : LoadParams,
    (∀ e, p.cart.load = .error e → powerOn p = .error e) ∧
    (∀ header, p.cart.load = .ok header → ∃ s, powerOn p = .ok s ∧
      (s.a = p.init.a ∧ s.f = p.init.f ∧ s.b = p.init.b ∧ s.c = p.init.c ∧ s.d = p.init.d ∧ s.e = p.init.e ∧
        s.h = p.init.h ∧ s.l = p.init.l ∧ s.sp = p.init.sp) ∧
      s.f.toByte &&& 0x0F#8 = 0x00#8 ∧
      s.pc = (if p.bootOverlay = none then 0x0100#16 else 0x0000#16) ∧
      (s.overlayActive = true ↔ p.bootOverlay ≠ none) ∧
      s.ime = false ∧ s.halted = false ∧ s.stopped = false ∧ s.breakNext = false ∧ s.fault = none ∧
      s.romBank = 1 ∧ s.ramBank = 0 ∧ s.ramEnabled = false ∧
      s.hooks = { reads := [], writes := [(0xFF44#16, .lyReset)] } ∧
      s.line = 0 ∧ s.mode = .oam ∧ s.clock = 0 ∧ s.frames = [] ∧ s.canvas = p.init.canvas ∧
      (∀ j, s.mem.get j = if j = 0xFF44 then 0x00#8 else p.init.mem.get j) ∧ s.extram = p.init.extram ∧
      s.cart = p.cart ∧ s.header = header ∧ s.bootOverlay = p.bootOverlay ∧ s.config = p.config)

/-- R65, R66, R67 and R69: the header tables, and that a cartridge loads exactly when its codes are in them and it is as
long as its ROM code declares; each failure has its reason where it is the only thing wrong. The tables and the refusals are
the spec's own choices (D19); the order of the checks is log entry 9. -/
def Obligations.CartridgeLoad : Prop :=
  (∀ v : Byte, mbcModeOf v =
    if v = 0x00#8 then some .none else if v = 0x01#8 ∨ v = 0x02#8 ∨ v = 0x03#8 then some .simple else none) ∧
  (∀ v : Byte, romBanksOf v =
    ([(0x00#8, 2), (0x01#8, 4), (0x02#8, 8), (0x03#8, 16), (0x04#8, 32), (0x05#8, 64), (0x06#8, 128), (0x52#8, 72),
      (0x53#8, 80), (0x54#8, 96)] : List (Byte × Nat)).lookup v) ∧
  (∀ v : Byte, ramBanksOf v =
    ([(0x00#8, 0), (0x01#8, 1), (0x02#8, 1), (0x03#8, 4), (0x04#8, 16), (0x05#8, 8)] : List (Byte × Nat)).lookup v) ∧
  (∀ k : Cartridge,
    let type := k.bytes.get 0x147
    let romCode := k.bytes.get 0x148
    let ramCode := k.bytes.get 0x149
    (∀ header, k.load = .ok header ↔
      ∃ m rom ram, mbcModeOf type = some m ∧ romBanksOf romCode = some rom ∧ ramBanksOf ramCode = some ram ∧
        rom * 0x4000 ≤ k.len ∧
        header =
          { title := k.title, cartType := type, romCode := romCode, ramCode := ramCode, romBanks := rom, ramBanks := ram,
            mbcMode := m }) ∧
    (∀ m rom ram, mbcModeOf type = some m → romBanksOf romCode = some rom → ramBanksOf ramCode = some ram →
      k.len < rom * 0x4000 → k.load = .error .truncated) ∧
    (∀ rom ram, mbcModeOf type = none → romBanksOf romCode = some rom → ramBanksOf ramCode = some ram →
      rom * 0x4000 ≤ k.len → k.load = .error .unsupportedType) ∧
    (∀ m ram, mbcModeOf type = some m → romBanksOf romCode = none → ramBanksOf ramCode = some ram →
      0x14A ≤ k.len → k.load = .error .badRomSizeCode) ∧
    (∀ m rom, mbcModeOf type = some m → romBanksOf romCode = some rom → ramBanksOf ramCode = none →
      rom * 0x4000 ≤ k.len → k.load = .error .badRamSizeCode))

/-- R35 to R37, R52 and R78 over whole ticks: the parameters, the header and the hook registry never change; the boot
overlay goes at a fetch at 0x0100, stays otherwise, and never comes back. The moment the overlay goes is the spec's own
choice D20; that it goes also in a tick that faults at 0x0100, of which R381 says that other state is as before the step, is
log entry 6 (DEDUCED, unsafe). -/
def Obligations.ParametersAndOverlay : Prop :=
  ∀ s t : State, step s = .next t →
    t.cart = s.cart ∧ t.header = s.header ∧ t.bootOverlay = s.bootOverlay ∧ t.config = s.config ∧ t.hooks = s.hooks ∧
    (s.overlayActive = false → t.overlayActive = false) ∧
    (s.Running → s.pc = 0x0100#16 → t.overlayActive = false) ∧
    (¬(s.Running ∧ s.pc = 0x0100#16) → t.overlayActive = s.overlayActive)

/-- Frames are handed out in order and never taken back, at most one a tick, each the canvas as it stands, and only by the
transition out of the horizontal blank of line 143 (R47, R338). Frames as an output sequence are the spec's own choice
(D39). -/
def Obligations.FramesAppendOnly : Prop :=
  ∀ s t : State, step s = .next t →
    t.frames = s.frames ∨
      (t.frames = s.frames ++ [s.canvas] ∧ t.canvas = s.canvas ∧ s.mode = .hblank ∧ s.line = 143)

/-- The reset state is a legal state: the memory is canonical, LY reads the line back, the banks are in range (the values of
`State.reset` that the spec leaves open are the model's, log entries 1 and 2). -/
def Obligations.ResetSatisfiesInvariant : Prop := State.reset.Inv

/-- Every machine that reset can build from admitted parameters, with the display on or off, starts within the invariant. -/
def Obligations.PowerOnSatisfiesInvariant : Prop :=
  ∀ (p : LoadParams) (header : Header) (s : State), p.cart.load = .ok header → p.Ok header → powerOn p = .ok s → s.Inv

/-- R51 and R451, from every state and not only along runs: canonical memory inside its sizes, bank indices in range, the
line and its readback in LY, the clock below its threshold, the restart state while the display is off, rows of 160 pixels,
the one hook, a header that is the cartridge's, no enabled request left pending, and never both halted and stopped. -/
def Obligations.StepKeepsInvariant : Prop := ∀ s t : State, s.Inv → step s = .next t → t.Inv
end

