-- ==== Sys2Proof/Laws/Memory.lean ====
section
/-! SUPPORT. The laws of the sparse stores: read after write, and that every write keeps the canonical form and any bound on
the keys. None needs the list to be canonical beforehand. -/

namespace Sys2Proof.Machine

variable {α : Type} (dflt : α)

omit dflt in
theorem Sparse.erase_cons (k : Nat) (v : α) (rest : List (Nat × α)) (i : Nat) :
    Sparse.erase ((k, v) :: rest) i = if k = i then Sparse.erase rest i else (k, v) :: Sparse.erase rest i := by
  by_cases h : k = i <;> simp [Sparse.erase, h]

theorem Sparse.get_erase (m : List (Nat × α)) (i j : Nat) :
    Sparse.get dflt (Sparse.erase m i) j = if j = i then dflt else Sparse.get dflt m j := by
  induction m with
  | nil => simp [Sparse.erase, Sparse.get]
  | cons p rest ih =>
    obtain ⟨k, v⟩ := p
    rw [Sparse.erase_cons]
    by_cases hk : k = i
    · subst hk
      rw [if_pos rfl, ih]
      by_cases hj : j = k <;> simp [Sparse.get, hj]
    · by_cases hj : j = k
      · subst hj; simp [Sparse.get, hk]
      · simp [Sparse.get, hk, hj, ih]

theorem Sparse.get_insert (m : List (Nat × α)) (i j : Nat) (v : α) (hi : ∀ p ∈ m, p.1 ≠ i) :
    Sparse.get dflt (Sparse.insert i v m) j = if j = i then v else Sparse.get dflt m j := by
  induction m with
  | nil => simp [Sparse.insert, Sparse.get]
  | cons p rest ih =>
    obtain ⟨k, w⟩ := p
    have hk : k ≠ i := hi (k, w) (by simp)
    have hrest := ih fun q hq => hi q (by simp [hq])
    by_cases hlt : i < k
    · by_cases hj : j = i <;> simp [Sparse.insert, Sparse.get, hlt, hj]
    · by_cases hj : j = k
      · subst hj; simp [Sparse.insert, Sparse.get, hlt, hk]
      · simp [Sparse.insert, Sparse.get, hlt, hj, hrest]

theorem Sparse.erase_key_ne (m : List (Nat × α)) (i : Nat) : ∀ p ∈ Sparse.erase m i, p.1 ≠ i := by
  intro p hp
  simpa using (List.mem_filter.mp hp).2

theorem Sparse.mem_insert {m : List (Nat × α)} {i : Nat} {v : α} {p : Nat × α}
    (hp : p ∈ Sparse.insert i v m) : p = (i, v) ∨ p ∈ m := by
  induction m with
  | nil => simpa [Sparse.insert] using hp
  | cons q rest ih =>
    obtain ⟨k, w⟩ := q
    simp only [Sparse.insert] at hp
    split at hp
    · simpa using hp
    · rcases List.mem_cons.mp hp with h | h
      · simp [h]
      · rcases ih h with h | h <;> simp [h]

theorem Sparse.pairwise_insert (m : List (Nat × α)) (i : Nat) (v : α)
    (hm : m.Pairwise fun x y => x.1 < y.1) (hi : ∀ p ∈ m, p.1 ≠ i) :
    (Sparse.insert i v m).Pairwise fun x y => x.1 < y.1 := by
  induction m with
  | nil => simp [Sparse.insert]
  | cons q rest ih =>
    obtain ⟨k, w⟩ := q
    obtain ⟨hhead, htail⟩ := List.pairwise_cons.mp hm
    have hk : k ≠ i := hi (k, w) (by simp)
    simp only [Sparse.insert]
    split
    · rename_i hlt
      refine List.pairwise_cons.mpr ⟨fun p hp => ?_, hm⟩
      rcases List.mem_cons.mp hp with h | h
      · simpa [h] using hlt
      · exact Nat.lt_trans hlt (hhead p h)
    · rename_i hge
      refine List.pairwise_cons.mpr ⟨fun p hp => ?_, ih htail fun p hp => hi p (by simp [hp])⟩
      rcases Sparse.mem_insert hp with h | h
      · simp only [h]; omega
      · exact hhead p h

variable [DecidableEq α]

/-- Read after write, for any key. -/
theorem Sparse.get_set (m : List (Nat × α)) (i j : Nat) (v : α) :
    Sparse.get dflt (Sparse.set dflt m i v) j = if j = i then v else Sparse.get dflt m j := by
  unfold Sparse.set
  split
  · rename_i hv
    rw [Sparse.get_erase, hv]
  · rw [Sparse.get_insert dflt _ _ _ _ (Sparse.erase_key_ne m i), Sparse.get_erase]
    split <;> rfl

/-- A pair of a written store is the written one or an old one at another key. -/
theorem Sparse.mem_set {m : List (Nat × α)} {i : Nat} {v : α} {p : Nat × α}
    (hp : p ∈ Sparse.set dflt m i v) : p = (i, v) ∨ p ∈ m := by
  unfold Sparse.set at hp
  split at hp
  · exact .inr (List.mem_filter.mp hp).1
  · rcases Sparse.mem_insert hp with h | h
    · exact .inl h
    · exact .inr (List.mem_filter.mp h).1

/-- A write keeps the canonical form. -/
theorem Sparse.canonical_set {m : List (Nat × α)} (i : Nat) (v : α) (hm : Sparse.Canonical dflt m) :
    Sparse.Canonical dflt (Sparse.set dflt m i v) := by
  have herase : (Sparse.erase m i).Pairwise fun x y => x.1 < y.1 := hm.1.filter _
  refine ⟨?_, fun p hp => ?_⟩
  · unfold Sparse.set
    split
    · exact herase
    · exact Sparse.pairwise_insert _ _ _ herase (Sparse.erase_key_ne m i)
  · unfold Sparse.set at hp
    split at hp
    · exact hm.2 p (List.mem_filter.mp hp).1
    · rename_i hv
      rcases Sparse.mem_insert hp with h | h
      · simpa [h] using hv
      · exact hm.2 p (List.mem_filter.mp h).1

omit [DecidableEq α] in
/-- A key that no pair has reads as unlisted. -/
theorem Sparse.get_of_unlisted {m : List (Nat × α)} {i : Nat} (h : ∀ p ∈ m, p.1 ≠ i) :
    Sparse.get dflt m i = dflt := by
  induction m with
  | nil => rfl
  | cons q rest ih =>
    have hq : i ≠ q.1 := fun hh => h q (by simp) hh.symm
    simp [Sparse.get, hq, ih fun p hp => h p (by simp [hp])]

@[simp] theorem Memory.get_nil (i : Nat) : Memory.get [] i = unlistedByte := rfl

/-- Read after write of a byte store. -/
theorem Memory.get_set (m : Memory) (i j : Nat) (v : Byte) :
    (m.set i v).get j = if j = i then v else m.get j := Sparse.get_set unlistedByte m i j v

@[simp] theorem Memory.get_set_self (m : Memory) (i : Nat) (v : Byte) : (m.set i v).get i = v := by
  simp [Memory.get_set]

theorem Memory.get_set_ne (m : Memory) {i j : Nat} (v : Byte) (h : j ≠ i) : (m.set i v).get j = m.get j := by
  simp [Memory.get_set, h]

/-- Every write keeps the canonical form of a byte store. -/
theorem Memory.wf_set {m : Memory} (i : Nat) (v : Byte) (h : m.wf) : (m.set i v).wf :=
  Sparse.canonical_set unlistedByte i v h

theorem Memory.mem_set {m : Memory} {i : Nat} {v : Byte} {p : Host.Cell} (h : p ∈ m.set i v) :
    p = (i, v) ∨ p ∈ m := Sparse.mem_set unlistedByte h

end Sys2Proof.Machine
end

