-- ==== Sys2Proof/Laws/State.lean ====
section
/-! SUPPORT. One lemma per field per named update of the state, so that no later proof unfolds a record update, and the
commutations of `withCpuOf`. -/

namespace Sys2Proof.Machine

@[simp] theorem State.skip_a (s : State) (n : Nat) : (s.skip n).a = s.a := rfl
@[simp] theorem State.skip_f (s : State) (n : Nat) : (s.skip n).f = s.f := rfl
@[simp] theorem State.skip_b (s : State) (n : Nat) : (s.skip n).b = s.b := rfl
@[simp] theorem State.skip_c (s : State) (n : Nat) : (s.skip n).c = s.c := rfl
@[simp] theorem State.skip_d (s : State) (n : Nat) : (s.skip n).d = s.d := rfl
@[simp] theorem State.skip_e (s : State) (n : Nat) : (s.skip n).e = s.e := rfl
@[simp] theorem State.skip_h (s : State) (n : Nat) : (s.skip n).h = s.h := rfl
@[simp] theorem State.skip_l (s : State) (n : Nat) : (s.skip n).l = s.l := rfl
@[simp] theorem State.skip_sp (s : State) (n : Nat) : (s.skip n).sp = s.sp := rfl
@[simp] theorem State.skip_ime (s : State) (n : Nat) : (s.skip n).ime = s.ime := rfl
@[simp] theorem State.skip_halted (s : State) (n : Nat) : (s.skip n).halted = s.halted := rfl
@[simp] theorem State.skip_stopped (s : State) (n : Nat) : (s.skip n).stopped = s.stopped := rfl
@[simp] theorem State.skip_fault (s : State) (n : Nat) : (s.skip n).fault = s.fault := rfl
@[simp] theorem State.skip_breakNext (s : State) (n : Nat) : (s.skip n).breakNext = s.breakNext := rfl
@[simp] theorem State.skip_mem (s : State) (n : Nat) : (s.skip n).mem = s.mem := rfl
@[simp] theorem State.skip_extram (s : State) (n : Nat) : (s.skip n).extram = s.extram := rfl
@[simp] theorem State.skip_romBank (s : State) (n : Nat) : (s.skip n).romBank = s.romBank := rfl
@[simp] theorem State.skip_ramBank (s : State) (n : Nat) : (s.skip n).ramBank = s.ramBank := rfl
@[simp] theorem State.skip_ramEnabled (s : State) (n : Nat) : (s.skip n).ramEnabled = s.ramEnabled := rfl
@[simp] theorem State.skip_overlayActive (s : State) (n : Nat) : (s.skip n).overlayActive = s.overlayActive := rfl
@[simp] theorem State.skip_hooks (s : State) (n : Nat) : (s.skip n).hooks = s.hooks := rfl
@[simp] theorem State.skip_cart (s : State) (n : Nat) : (s.skip n).cart = s.cart := rfl
@[simp] theorem State.skip_header (s : State) (n : Nat) : (s.skip n).header = s.header := rfl
@[simp] theorem State.skip_bootOverlay (s : State) (n : Nat) : (s.skip n).bootOverlay = s.bootOverlay := rfl
@[simp] theorem State.skip_config (s : State) (n : Nat) : (s.skip n).config = s.config := rfl
@[simp] theorem State.skip_line (s : State) (n : Nat) : (s.skip n).line = s.line := rfl
@[simp] theorem State.skip_mode (s : State) (n : Nat) : (s.skip n).mode = s.mode := rfl
@[simp] theorem State.skip_clock (s : State) (n : Nat) : (s.skip n).clock = s.clock := rfl
@[simp] theorem State.skip_canvas (s : State) (n : Nat) : (s.skip n).canvas = s.canvas := rfl
@[simp] theorem State.skip_frames (s : State) (n : Nat) : (s.skip n).frames = s.frames := rfl
@[simp] theorem State.skip_tickResult (s : State) (n : Nat) : (s.skip n).tickResult = s.tickResult := rfl

@[simp] theorem State.skip_pc (s : State) (n : Nat) : (s.skip n).pc = s.pc + BitVec.ofNat 16 n := rfl

@[simp] theorem State.setReg_f (s : State) (r : Reg8) (v : Byte) : (s.setReg r v).f = s.f := by cases r <;> rfl
@[simp] theorem State.setReg_pc (s : State) (r : Reg8) (v : Byte) : (s.setReg r v).pc = s.pc := by cases r <;> rfl
@[simp] theorem State.setReg_sp (s : State) (r : Reg8) (v : Byte) : (s.setReg r v).sp = s.sp := by cases r <;> rfl
@[simp] theorem State.setReg_ime (s : State) (r : Reg8) (v : Byte) : (s.setReg r v).ime = s.ime := by cases r <;> rfl
@[simp] theorem State.setReg_halted (s : State) (r : Reg8) (v : Byte) : (s.setReg r v).halted = s.halted := by cases r <;> rfl
@[simp] theorem State.setReg_stopped (s : State) (r : Reg8) (v : Byte) : (s.setReg r v).stopped = s.stopped := by cases r <;> rfl
@[simp] theorem State.setReg_fault (s : State) (r : Reg8) (v : Byte) : (s.setReg r v).fault = s.fault := by cases r <;> rfl
@[simp] theorem State.setReg_breakNext (s : State) (r : Reg8) (v : Byte) : (s.setReg r v).breakNext = s.breakNext := by cases r <;> rfl
@[simp] theorem State.setReg_mem (s : State) (r : Reg8) (v : Byte) : (s.setReg r v).mem = s.mem := by cases r <;> rfl
@[simp] theorem State.setReg_extram (s : State) (r : Reg8) (v : Byte) : (s.setReg r v).extram = s.extram := by cases r <;> rfl
@[simp] theorem State.setReg_romBank (s : State) (r : Reg8) (v : Byte) : (s.setReg r v).romBank = s.romBank := by cases r <;> rfl
@[simp] theorem State.setReg_ramBank (s : State) (r : Reg8) (v : Byte) : (s.setReg r v).ramBank = s.ramBank := by cases r <;> rfl
@[simp] theorem State.setReg_ramEnabled (s : State) (r : Reg8) (v : Byte) : (s.setReg r v).ramEnabled = s.ramEnabled := by cases r <;> rfl
@[simp] theorem State.setReg_overlayActive (s : State) (r : Reg8) (v : Byte) : (s.setReg r v).overlayActive = s.overlayActive := by cases r <;> rfl
@[simp] theorem State.setReg_hooks (s : State) (r : Reg8) (v : Byte) : (s.setReg r v).hooks = s.hooks := by cases r <;> rfl
@[simp] theorem State.setReg_cart (s : State) (r : Reg8) (v : Byte) : (s.setReg r v).cart = s.cart := by cases r <;> rfl
@[simp] theorem State.setReg_header (s : State) (r : Reg8) (v : Byte) : (s.setReg r v).header = s.header := by cases r <;> rfl
@[simp] theorem State.setReg_bootOverlay (s : State) (r : Reg8) (v : Byte) : (s.setReg r v).bootOverlay = s.bootOverlay := by cases r <;> rfl
@[simp] theorem State.setReg_config (s : State) (r : Reg8) (v : Byte) : (s.setReg r v).config = s.config := by cases r <;> rfl
@[simp] theorem State.setReg_line (s : State) (r : Reg8) (v : Byte) : (s.setReg r v).line = s.line := by cases r <;> rfl
@[simp] theorem State.setReg_mode (s : State) (r : Reg8) (v : Byte) : (s.setReg r v).mode = s.mode := by cases r <;> rfl
@[simp] theorem State.setReg_clock (s : State) (r : Reg8) (v : Byte) : (s.setReg r v).clock = s.clock := by cases r <;> rfl
@[simp] theorem State.setReg_canvas (s : State) (r : Reg8) (v : Byte) : (s.setReg r v).canvas = s.canvas := by cases r <;> rfl
@[simp] theorem State.setReg_frames (s : State) (r : Reg8) (v : Byte) : (s.setReg r v).frames = s.frames := by cases r <;> rfl
@[simp] theorem State.setReg_tickResult (s : State) (r : Reg8) (v : Byte) : (s.setReg r v).tickResult = s.tickResult := by cases r <;> rfl

theorem State.reg_setReg (s : State) (r q : Reg8) (v : Byte) :
    (s.setReg r v).reg q = if q = r then v else s.reg q := by
  cases r <;> cases q <;> rfl

@[simp] theorem State.reg_skip (s : State) (n : Nat) (r : Reg8) : (s.skip n).reg r = s.reg r := by cases r <;> rfl

@[simp] theorem State.pair_skip (s : State) (n : Nat) (p : Pair) : (s.skip n).pair p = s.pair p := by cases p <;> rfl

@[simp] theorem State.stackPair_skip (s : State) (n : Nat) (p : StackPair) : (s.skip n).stackPair p = s.stackPair p := by
  cases p <;> rfl

@[simp] theorem State.setPair_a (s : State) (p : Pair) (v : Word) : (s.setPair p v).a = s.a := by cases p <;> rfl
@[simp] theorem State.setPair_f (s : State) (p : Pair) (v : Word) : (s.setPair p v).f = s.f := by cases p <;> rfl
@[simp] theorem State.setPair_pc (s : State) (p : Pair) (v : Word) : (s.setPair p v).pc = s.pc := by cases p <;> rfl
@[simp] theorem State.setPair_ime (s : State) (p : Pair) (v : Word) : (s.setPair p v).ime = s.ime := by cases p <;> rfl
@[simp] theorem State.setPair_halted (s : State) (p : Pair) (v : Word) : (s.setPair p v).halted = s.halted := by cases p <;> rfl
@[simp] theorem State.setPair_stopped (s : State) (p : Pair) (v : Word) : (s.setPair p v).stopped = s.stopped := by cases p <;> rfl
@[simp] theorem State.setPair_fault (s : State) (p : Pair) (v : Word) : (s.setPair p v).fault = s.fault := by cases p <;> rfl
@[simp] theorem State.setPair_breakNext (s : State) (p : Pair) (v : Word) : (s.setPair p v).breakNext = s.breakNext := by cases p <;> rfl
@[simp] theorem State.setPair_mem (s : State) (p : Pair) (v : Word) : (s.setPair p v).mem = s.mem := by cases p <;> rfl
@[simp] theorem State.setPair_extram (s : State) (p : Pair) (v : Word) : (s.setPair p v).extram = s.extram := by cases p <;> rfl
@[simp] theorem State.setPair_romBank (s : State) (p : Pair) (v : Word) : (s.setPair p v).romBank = s.romBank := by cases p <;> rfl
@[simp] theorem State.setPair_ramBank (s : State) (p : Pair) (v : Word) : (s.setPair p v).ramBank = s.ramBank := by cases p <;> rfl
@[simp] theorem State.setPair_ramEnabled (s : State) (p : Pair) (v : Word) : (s.setPair p v).ramEnabled = s.ramEnabled := by cases p <;> rfl
@[simp] theorem State.setPair_overlayActive (s : State) (p : Pair) (v : Word) : (s.setPair p v).overlayActive = s.overlayActive := by cases p <;> rfl
@[simp] theorem State.setPair_hooks (s : State) (p : Pair) (v : Word) : (s.setPair p v).hooks = s.hooks := by cases p <;> rfl
@[simp] theorem State.setPair_cart (s : State) (p : Pair) (v : Word) : (s.setPair p v).cart = s.cart := by cases p <;> rfl
@[simp] theorem State.setPair_header (s : State) (p : Pair) (v : Word) : (s.setPair p v).header = s.header := by cases p <;> rfl
@[simp] theorem State.setPair_bootOverlay (s : State) (p : Pair) (v : Word) : (s.setPair p v).bootOverlay = s.bootOverlay := by cases p <;> rfl
@[simp] theorem State.setPair_config (s : State) (p : Pair) (v : Word) : (s.setPair p v).config = s.config := by cases p <;> rfl
@[simp] theorem State.setPair_line (s : State) (p : Pair) (v : Word) : (s.setPair p v).line = s.line := by cases p <;> rfl
@[simp] theorem State.setPair_mode (s : State) (p : Pair) (v : Word) : (s.setPair p v).mode = s.mode := by cases p <;> rfl
@[simp] theorem State.setPair_clock (s : State) (p : Pair) (v : Word) : (s.setPair p v).clock = s.clock := by cases p <;> rfl
@[simp] theorem State.setPair_canvas (s : State) (p : Pair) (v : Word) : (s.setPair p v).canvas = s.canvas := by cases p <;> rfl
@[simp] theorem State.setPair_frames (s : State) (p : Pair) (v : Word) : (s.setPair p v).frames = s.frames := by cases p <;> rfl
@[simp] theorem State.setPair_tickResult (s : State) (p : Pair) (v : Word) : (s.setPair p v).tickResult = s.tickResult := by cases p <;> rfl

@[simp] theorem State.setStackPair_pc (s : State) (p : StackPair) (v : Word) : (s.setStackPair p v).pc = s.pc := by cases p <;> rfl
@[simp] theorem State.setStackPair_sp (s : State) (p : StackPair) (v : Word) : (s.setStackPair p v).sp = s.sp := by cases p <;> rfl
@[simp] theorem State.setStackPair_ime (s : State) (p : StackPair) (v : Word) : (s.setStackPair p v).ime = s.ime := by cases p <;> rfl
@[simp] theorem State.setStackPair_halted (s : State) (p : StackPair) (v : Word) : (s.setStackPair p v).halted = s.halted := by cases p <;> rfl
@[simp] theorem State.setStackPair_stopped (s : State) (p : StackPair) (v : Word) : (s.setStackPair p v).stopped = s.stopped := by cases p <;> rfl
@[simp] theorem State.setStackPair_fault (s : State) (p : StackPair) (v : Word) : (s.setStackPair p v).fault = s.fault := by cases p <;> rfl
@[simp] theorem State.setStackPair_breakNext (s : State) (p : StackPair) (v : Word) : (s.setStackPair p v).breakNext = s.breakNext := by cases p <;> rfl
@[simp] theorem State.setStackPair_mem (s : State) (p : StackPair) (v : Word) : (s.setStackPair p v).mem = s.mem := by cases p <;> rfl
@[simp] theorem State.setStackPair_extram (s : State) (p : StackPair) (v : Word) : (s.setStackPair p v).extram = s.extram := by cases p <;> rfl
@[simp] theorem State.setStackPair_romBank (s : State) (p : StackPair) (v : Word) : (s.setStackPair p v).romBank = s.romBank := by cases p <;> rfl
@[simp] theorem State.setStackPair_ramBank (s : State) (p : StackPair) (v : Word) : (s.setStackPair p v).ramBank = s.ramBank := by cases p <;> rfl
@[simp] theorem State.setStackPair_ramEnabled (s : State) (p : StackPair) (v : Word) : (s.setStackPair p v).ramEnabled = s.ramEnabled := by cases p <;> rfl
@[simp] theorem State.setStackPair_overlayActive (s : State) (p : StackPair) (v : Word) : (s.setStackPair p v).overlayActive = s.overlayActive := by cases p <;> rfl
@[simp] theorem State.setStackPair_hooks (s : State) (p : StackPair) (v : Word) : (s.setStackPair p v).hooks = s.hooks := by cases p <;> rfl
@[simp] theorem State.setStackPair_cart (s : State) (p : StackPair) (v : Word) : (s.setStackPair p v).cart = s.cart := by cases p <;> rfl
@[simp] theorem State.setStackPair_header (s : State) (p : StackPair) (v : Word) : (s.setStackPair p v).header = s.header := by cases p <;> rfl
@[simp] theorem State.setStackPair_bootOverlay (s : State) (p : StackPair) (v : Word) : (s.setStackPair p v).bootOverlay = s.bootOverlay := by cases p <;> rfl
@[simp] theorem State.setStackPair_config (s : State) (p : StackPair) (v : Word) : (s.setStackPair p v).config = s.config := by cases p <;> rfl
@[simp] theorem State.setStackPair_line (s : State) (p : StackPair) (v : Word) : (s.setStackPair p v).line = s.line := by cases p <;> rfl
@[simp] theorem State.setStackPair_mode (s : State) (p : StackPair) (v : Word) : (s.setStackPair p v).mode = s.mode := by cases p <;> rfl
@[simp] theorem State.setStackPair_clock (s : State) (p : StackPair) (v : Word) : (s.setStackPair p v).clock = s.clock := by cases p <;> rfl
@[simp] theorem State.setStackPair_canvas (s : State) (p : StackPair) (v : Word) : (s.setStackPair p v).canvas = s.canvas := by cases p <;> rfl
@[simp] theorem State.setStackPair_frames (s : State) (p : StackPair) (v : Word) : (s.setStackPair p v).frames = s.frames := by cases p <;> rfl
@[simp] theorem State.setStackPair_tickResult (s : State) (p : StackPair) (v : Word) : (s.setStackPair p v).tickResult = s.tickResult := by cases p <;> rfl

@[simp] theorem State.dropWord_a (s : State) : (s.dropWord).a = s.a := rfl
@[simp] theorem State.dropWord_f (s : State) : (s.dropWord).f = s.f := rfl
@[simp] theorem State.dropWord_b (s : State) : (s.dropWord).b = s.b := rfl
@[simp] theorem State.dropWord_c (s : State) : (s.dropWord).c = s.c := rfl
@[simp] theorem State.dropWord_d (s : State) : (s.dropWord).d = s.d := rfl
@[simp] theorem State.dropWord_e (s : State) : (s.dropWord).e = s.e := rfl
@[simp] theorem State.dropWord_h (s : State) : (s.dropWord).h = s.h := rfl
@[simp] theorem State.dropWord_l (s : State) : (s.dropWord).l = s.l := rfl
@[simp] theorem State.dropWord_pc (s : State) : (s.dropWord).pc = s.pc := rfl
@[simp] theorem State.dropWord_ime (s : State) : (s.dropWord).ime = s.ime := rfl
@[simp] theorem State.dropWord_halted (s : State) : (s.dropWord).halted = s.halted := rfl
@[simp] theorem State.dropWord_stopped (s : State) : (s.dropWord).stopped = s.stopped := rfl
@[simp] theorem State.dropWord_fault (s : State) : (s.dropWord).fault = s.fault := rfl
@[simp] theorem State.dropWord_breakNext (s : State) : (s.dropWord).breakNext = s.breakNext := rfl
@[simp] theorem State.dropWord_mem (s : State) : (s.dropWord).mem = s.mem := rfl
@[simp] theorem State.dropWord_extram (s : State) : (s.dropWord).extram = s.extram := rfl
@[simp] theorem State.dropWord_romBank (s : State) : (s.dropWord).romBank = s.romBank := rfl
@[simp] theorem State.dropWord_ramBank (s : State) : (s.dropWord).ramBank = s.ramBank := rfl
@[simp] theorem State.dropWord_ramEnabled (s : State) : (s.dropWord).ramEnabled = s.ramEnabled := rfl
@[simp] theorem State.dropWord_overlayActive (s : State) : (s.dropWord).overlayActive = s.overlayActive := rfl
@[simp] theorem State.dropWord_hooks (s : State) : (s.dropWord).hooks = s.hooks := rfl
@[simp] theorem State.dropWord_cart (s : State) : (s.dropWord).cart = s.cart := rfl
@[simp] theorem State.dropWord_header (s : State) : (s.dropWord).header = s.header := rfl
@[simp] theorem State.dropWord_bootOverlay (s : State) : (s.dropWord).bootOverlay = s.bootOverlay := rfl
@[simp] theorem State.dropWord_config (s : State) : (s.dropWord).config = s.config := rfl
@[simp] theorem State.dropWord_line (s : State) : (s.dropWord).line = s.line := rfl
@[simp] theorem State.dropWord_mode (s : State) : (s.dropWord).mode = s.mode := rfl
@[simp] theorem State.dropWord_clock (s : State) : (s.dropWord).clock = s.clock := rfl
@[simp] theorem State.dropWord_canvas (s : State) : (s.dropWord).canvas = s.canvas := rfl
@[simp] theorem State.dropWord_frames (s : State) : (s.dropWord).frames = s.frames := rfl
@[simp] theorem State.dropWord_tickResult (s : State) : (s.dropWord).tickResult = s.tickResult := rfl

@[simp] theorem State.dropWord_sp (s : State) : s.dropWord.sp = s.sp + 2#16 := rfl

@[simp] theorem State.rawWrite_a (s : State) (a : Word) (v : Byte) : (s.rawWrite a v).a = s.a := rfl
@[simp] theorem State.rawWrite_f (s : State) (a : Word) (v : Byte) : (s.rawWrite a v).f = s.f := rfl
@[simp] theorem State.rawWrite_b (s : State) (a : Word) (v : Byte) : (s.rawWrite a v).b = s.b := rfl
@[simp] theorem State.rawWrite_c (s : State) (a : Word) (v : Byte) : (s.rawWrite a v).c = s.c := rfl
@[simp] theorem State.rawWrite_d (s : State) (a : Word) (v : Byte) : (s.rawWrite a v).d = s.d := rfl
@[simp] theorem State.rawWrite_e (s : State) (a : Word) (v : Byte) : (s.rawWrite a v).e = s.e := rfl
@[simp] theorem State.rawWrite_h (s : State) (a : Word) (v : Byte) : (s.rawWrite a v).h = s.h := rfl
@[simp] theorem State.rawWrite_l (s : State) (a : Word) (v : Byte) : (s.rawWrite a v).l = s.l := rfl
@[simp] theorem State.rawWrite_pc (s : State) (a : Word) (v : Byte) : (s.rawWrite a v).pc = s.pc := rfl
@[simp] theorem State.rawWrite_sp (s : State) (a : Word) (v : Byte) : (s.rawWrite a v).sp = s.sp := rfl
@[simp] theorem State.rawWrite_ime (s : State) (a : Word) (v : Byte) : (s.rawWrite a v).ime = s.ime := rfl
@[simp] theorem State.rawWrite_halted (s : State) (a : Word) (v : Byte) : (s.rawWrite a v).halted = s.halted := rfl
@[simp] theorem State.rawWrite_stopped (s : State) (a : Word) (v : Byte) : (s.rawWrite a v).stopped = s.stopped := rfl
@[simp] theorem State.rawWrite_fault (s : State) (a : Word) (v : Byte) : (s.rawWrite a v).fault = s.fault := rfl
@[simp] theorem State.rawWrite_breakNext (s : State) (a : Word) (v : Byte) : (s.rawWrite a v).breakNext = s.breakNext := rfl
@[simp] theorem State.rawWrite_extram (s : State) (a : Word) (v : Byte) : (s.rawWrite a v).extram = s.extram := rfl
@[simp] theorem State.rawWrite_romBank (s : State) (a : Word) (v : Byte) : (s.rawWrite a v).romBank = s.romBank := rfl
@[simp] theorem State.rawWrite_ramBank (s : State) (a : Word) (v : Byte) : (s.rawWrite a v).ramBank = s.ramBank := rfl
@[simp] theorem State.rawWrite_ramEnabled (s : State) (a : Word) (v : Byte) : (s.rawWrite a v).ramEnabled = s.ramEnabled := rfl
@[simp] theorem State.rawWrite_overlayActive (s : State) (a : Word) (v : Byte) : (s.rawWrite a v).overlayActive = s.overlayActive := rfl
@[simp] theorem State.rawWrite_hooks (s : State) (a : Word) (v : Byte) : (s.rawWrite a v).hooks = s.hooks := rfl
@[simp] theorem State.rawWrite_cart (s : State) (a : Word) (v : Byte) : (s.rawWrite a v).cart = s.cart := rfl
@[simp] theorem State.rawWrite_header (s : State) (a : Word) (v : Byte) : (s.rawWrite a v).header = s.header := rfl
@[simp] theorem State.rawWrite_bootOverlay (s : State) (a : Word) (v : Byte) : (s.rawWrite a v).bootOverlay = s.bootOverlay := rfl
@[simp] theorem State.rawWrite_config (s : State) (a : Word) (v : Byte) : (s.rawWrite a v).config = s.config := rfl
@[simp] theorem State.rawWrite_line (s : State) (a : Word) (v : Byte) : (s.rawWrite a v).line = s.line := rfl
@[simp] theorem State.rawWrite_mode (s : State) (a : Word) (v : Byte) : (s.rawWrite a v).mode = s.mode := rfl
@[simp] theorem State.rawWrite_clock (s : State) (a : Word) (v : Byte) : (s.rawWrite a v).clock = s.clock := rfl
@[simp] theorem State.rawWrite_canvas (s : State) (a : Word) (v : Byte) : (s.rawWrite a v).canvas = s.canvas := rfl
@[simp] theorem State.rawWrite_frames (s : State) (a : Word) (v : Byte) : (s.rawWrite a v).frames = s.frames := rfl
@[simp] theorem State.rawWrite_tickResult (s : State) (a : Word) (v : Byte) : (s.rawWrite a v).tickResult = s.tickResult := rfl

@[simp] theorem State.rawWrite_mem (s : State) (a : Word) (v : Byte) :
    (s.rawWrite a v).mem = s.mem.set (echoIndex a) v := rfl

@[simp] theorem State.withCpuOf_a (s u : State) : (s.withCpuOf u).a = u.a := rfl
@[simp] theorem State.withCpuOf_f (s u : State) : (s.withCpuOf u).f = u.f := rfl
@[simp] theorem State.withCpuOf_b (s u : State) : (s.withCpuOf u).b = u.b := rfl
@[simp] theorem State.withCpuOf_c (s u : State) : (s.withCpuOf u).c = u.c := rfl
@[simp] theorem State.withCpuOf_d (s u : State) : (s.withCpuOf u).d = u.d := rfl
@[simp] theorem State.withCpuOf_e (s u : State) : (s.withCpuOf u).e = u.e := rfl
@[simp] theorem State.withCpuOf_h (s u : State) : (s.withCpuOf u).h = u.h := rfl
@[simp] theorem State.withCpuOf_l (s u : State) : (s.withCpuOf u).l = u.l := rfl
@[simp] theorem State.withCpuOf_pc (s u : State) : (s.withCpuOf u).pc = u.pc := rfl
@[simp] theorem State.withCpuOf_sp (s u : State) : (s.withCpuOf u).sp = u.sp := rfl
@[simp] theorem State.withCpuOf_ime (s u : State) : (s.withCpuOf u).ime = u.ime := rfl
@[simp] theorem State.withCpuOf_halted (s u : State) : (s.withCpuOf u).halted = u.halted := rfl
@[simp] theorem State.withCpuOf_stopped (s u : State) : (s.withCpuOf u).stopped = u.stopped := rfl
@[simp] theorem State.withCpuOf_fault (s u : State) : (s.withCpuOf u).fault = u.fault := rfl
@[simp] theorem State.withCpuOf_breakNext (s u : State) : (s.withCpuOf u).breakNext = s.breakNext := rfl
@[simp] theorem State.withCpuOf_mem (s u : State) : (s.withCpuOf u).mem = s.mem := rfl
@[simp] theorem State.withCpuOf_extram (s u : State) : (s.withCpuOf u).extram = s.extram := rfl
@[simp] theorem State.withCpuOf_romBank (s u : State) : (s.withCpuOf u).romBank = s.romBank := rfl
@[simp] theorem State.withCpuOf_ramBank (s u : State) : (s.withCpuOf u).ramBank = s.ramBank := rfl
@[simp] theorem State.withCpuOf_ramEnabled (s u : State) : (s.withCpuOf u).ramEnabled = s.ramEnabled := rfl
@[simp] theorem State.withCpuOf_overlayActive (s u : State) : (s.withCpuOf u).overlayActive = s.overlayActive := rfl
@[simp] theorem State.withCpuOf_hooks (s u : State) : (s.withCpuOf u).hooks = s.hooks := rfl
@[simp] theorem State.withCpuOf_cart (s u : State) : (s.withCpuOf u).cart = s.cart := rfl
@[simp] theorem State.withCpuOf_header (s u : State) : (s.withCpuOf u).header = s.header := rfl
@[simp] theorem State.withCpuOf_bootOverlay (s u : State) : (s.withCpuOf u).bootOverlay = s.bootOverlay := rfl
@[simp] theorem State.withCpuOf_config (s u : State) : (s.withCpuOf u).config = s.config := rfl
@[simp] theorem State.withCpuOf_line (s u : State) : (s.withCpuOf u).line = s.line := rfl
@[simp] theorem State.withCpuOf_mode (s u : State) : (s.withCpuOf u).mode = s.mode := rfl
@[simp] theorem State.withCpuOf_clock (s u : State) : (s.withCpuOf u).clock = s.clock := rfl
@[simp] theorem State.withCpuOf_canvas (s u : State) : (s.withCpuOf u).canvas = s.canvas := rfl
@[simp] theorem State.withCpuOf_frames (s u : State) : (s.withCpuOf u).frames = s.frames := rfl
@[simp] theorem State.withCpuOf_tickResult (s u : State) : (s.withCpuOf u).tickResult = s.tickResult := rfl

@[simp] theorem State.withCpuOf_self (s : State) : s.withCpuOf s = s := rfl

@[simp] theorem State.withCpuOf_withCpuOf (s u v : State) : (s.withCpuOf u).withCpuOf v = s.withCpuOf v := rfl

theorem State.withCpuOf_of_withCpuOf (s u v : State) : s.withCpuOf (u.withCpuOf v) = s.withCpuOf v := rfl

theorem State.skip_eq_withCpuOf (s : State) (n : Nat) : s.skip n = s.withCpuOf (s.skip n) := rfl

theorem State.setReg_eq_withCpuOf (s : State) (r : Reg8) (v : Byte) : s.setReg r v = s.withCpuOf (s.setReg r v) := by
  cases r <;> rfl

theorem State.setPair_eq_withCpuOf (s : State) (p : Pair) (v : Word) : s.setPair p v = s.withCpuOf (s.setPair p v) := by
  cases p <;> rfl

theorem State.setStackPair_eq_withCpuOf (s : State) (p : StackPair) (v : Word) :
    s.setStackPair p v = s.withCpuOf (s.setStackPair p v) := by
  cases p <;> rfl

end Sys2Proof.Machine
end

