-- ==== Sys2Proof/Laws/Bus.lean ====
section
/-! SUPPORT. What the bus operations can do: which fields a hooked write touches, what a read sees after it, and that neither
looks at the CPU registers. -/

namespace Sys2Proof.Machine

@[simp] theorem State.memRead_withCpuOf (s u : State) (a : Word) : (s.withCpuOf u).memRead a = s.memRead a := rfl

@[simp] theorem State.rawRead_withCpuOf (s u : State) (a : Word) : (s.withCpuOf u).rawRead a = s.rawRead a := rfl

@[simp] theorem State.memRead_skip (s : State) (n : Nat) (a : Word) : (s.skip n).memRead a = s.memRead a := rfl

@[simp] theorem State.operand_skip (s : State) (n : Nat) (o : Operand8) : (s.skip n).operand o = s.operand o := by
  cases o with
  | reg r => cases r <;> rfl
  | atHl => rfl

theorem State.extRamWrite_withCpuOf (s u : State) (a : Word) (v : Byte) :
    (s.withCpuOf u).extRamWrite a v = (s.extRamWrite a v).withCpuOf u := by
  have hon : (s.withCpuOf u).extRamOn = s.extRamOn := rfl
  unfold State.extRamWrite
  rw [hon]
  split <;> rfl

theorem State.bankControl_withCpuOf (s u : State) (a : Word) (v : Byte) :
    (s.withCpuOf u).bankControl a v = (s.bankControl a v).withCpuOf u := by
  unfold State.bankControl
  rw [State.withCpuOf_header]
  cases s.header.mbcMode
  · rfl
  · dsimp only
    repeat' split
    all_goals rfl

theorem State.busStore_withCpuOf (s u : State) (a : Word) (v : Byte) :
    (s.withCpuOf u).busStore a v = (s.busStore a v).withCpuOf u := by
  unfold State.busStore
  rw [State.bankControl_withCpuOf, State.extRamWrite_withCpuOf]
  repeat' split
  all_goals rfl

theorem WriteHook.run_withCpuOf (k : WriteHook) (s u : State) : k.run (s.withCpuOf u) = (k.run s).withCpuOf u := by
  cases k; rfl

theorem State.foldHooks_withCpuOf (ks : List (Word × WriteHook)) (s u : State) :
    ks.foldl (fun t p => p.2.run t) (s.withCpuOf u) = (ks.foldl (fun t p => p.2.run t) s).withCpuOf u := by
  induction ks generalizing s with
  | nil => rfl
  | cons p rest ih => simp only [List.foldl_cons, WriteHook.run_withCpuOf, ih]

theorem State.busStore_hooks (s : State) (a : Word) (v : Byte) : (s.busStore a v).hooks = s.hooks := by
  unfold State.busStore State.bankControl State.extRamWrite
  repeat' split
  all_goals rfl

/-- A hooked write does not look at the CPU registers. -/
theorem State.memWrite_withCpuOf (s u : State) (a : Word) (v : Byte) :
    (s.withCpuOf u).memWrite a v = (s.memWrite a v).withCpuOf u := by
  unfold State.memWrite State.fireWriteHooks
  rw [State.busStore_withCpuOf, State.withCpuOf_hooks, State.foldHooks_withCpuOf]

theorem State.memWrite16_withCpuOf (s u : State) (a v : Word) :
    (s.withCpuOf u).memWrite16 a v = (s.memWrite16 a v).withCpuOf u := by
  simp only [State.memWrite16, State.memWrite_withCpuOf]

/-- The part of the state a hooked write may change, as a record update of it: the two stores, the banking state, the line. -/
structure BusPart where
  mem : Memory
  extram : Memory
  romBank : Nat
  ramBank : Nat
  ramEnabled : Bool
  line : Nat

/-- A state with that part replaced. -/
def State.withBus (s : State) (p : BusPart) : State :=
  { s with
    mem := p.mem
    extram := p.extram
    romBank := p.romBank
    ramBank := p.ramBank
    ramEnabled := p.ramEnabled
    line := p.line }

/-- That part of a state. -/
def State.busPart (s : State) : BusPart where
  mem := s.mem
  extram := s.extram
  romBank := s.romBank
  ramBank := s.ramBank
  ramEnabled := s.ramEnabled
  line := s.line

theorem State.busStore_shape (s : State) (a : Word) (v : Byte) :
    s.busStore a v = s.withBus (s.busStore a v).busPart := by
  unfold State.busStore State.bankControl State.extRamWrite
  repeat' split
  all_goals rfl

theorem WriteHook.run_shape (k : WriteHook) (s : State) : k.run s = s.withBus (k.run s).busPart := by
  cases k; rfl

theorem State.foldHooks_shape (ks : List (Word × WriteHook)) (s : State) :
    ks.foldl (fun t p => p.2.run t) s = s.withBus (ks.foldl (fun t p => p.2.run t) s).busPart := by
  induction ks generalizing s with
  | nil => rfl
  | cons p rest ih =>
    rw [List.foldl_cons, ih, WriteHook.run_shape p.2 s]
    rfl

/-- A hooked write changes the two stores, the banking state and the line, and nothing else. -/
theorem State.memWrite_shape (s : State) (a : Word) (v : Byte) :
    s.memWrite a v = s.withBus (s.memWrite a v).busPart := by
  unfold State.memWrite State.fireWriteHooks
  rw [State.foldHooks_shape, State.busStore_shape]
  rfl

theorem State.memWrite16_shape (s : State) (a v : Word) :
    s.memWrite16 a v = s.withBus (s.memWrite16 a v).busPart := by
  unfold State.memWrite16
  rw [State.memWrite_shape, State.memWrite_shape s]
  rfl

@[simp] theorem State.memWrite_a (s : State) (a : Word) (v : Byte) : (s.memWrite a v).a = s.a := by
  rw [State.memWrite_shape]; rfl
@[simp] theorem State.memWrite_f (s : State) (a : Word) (v : Byte) : (s.memWrite a v).f = s.f := by
  rw [State.memWrite_shape]; rfl
@[simp] theorem State.memWrite_b (s : State) (a : Word) (v : Byte) : (s.memWrite a v).b = s.b := by
  rw [State.memWrite_shape]; rfl
@[simp] theorem State.memWrite_c (s : State) (a : Word) (v : Byte) : (s.memWrite a v).c = s.c := by
  rw [State.memWrite_shape]; rfl
@[simp] theorem State.memWrite_d (s : State) (a : Word) (v : Byte) : (s.memWrite a v).d = s.d := by
  rw [State.memWrite_shape]; rfl
@[simp] theorem State.memWrite_e (s : State) (a : Word) (v : Byte) : (s.memWrite a v).e = s.e := by
  rw [State.memWrite_shape]; rfl
@[simp] theorem State.memWrite_h (s : State) (a : Word) (v : Byte) : (s.memWrite a v).h = s.h := by
  rw [State.memWrite_shape]; rfl
@[simp] theorem State.memWrite_l (s : State) (a : Word) (v : Byte) : (s.memWrite a v).l = s.l := by
  rw [State.memWrite_shape]; rfl
@[simp] theorem State.memWrite_pc (s : State) (a : Word) (v : Byte) : (s.memWrite a v).pc = s.pc := by
  rw [State.memWrite_shape]; rfl
@[simp] theorem State.memWrite_sp (s : State) (a : Word) (v : Byte) : (s.memWrite a v).sp = s.sp := by
  rw [State.memWrite_shape]; rfl
@[simp] theorem State.memWrite_ime (s : State) (a : Word) (v : Byte) : (s.memWrite a v).ime = s.ime := by
  rw [State.memWrite_shape]; rfl
@[simp] theorem State.memWrite_halted (s : State) (a : Word) (v : Byte) : (s.memWrite a v).halted = s.halted := by
  rw [State.memWrite_shape]; rfl
@[simp] theorem State.memWrite_stopped (s : State) (a : Word) (v : Byte) : (s.memWrite a v).stopped = s.stopped := by
  rw [State.memWrite_shape]; rfl
@[simp] theorem State.memWrite_fault (s : State) (a : Word) (v : Byte) : (s.memWrite a v).fault = s.fault := by
  rw [State.memWrite_shape]; rfl
@[simp] theorem State.memWrite_breakNext (s : State) (a : Word) (v : Byte) : (s.memWrite a v).breakNext = s.breakNext := by
  rw [State.memWrite_shape]; rfl
@[simp] theorem State.memWrite_overlayActive (s : State) (a : Word) (v : Byte) : (s.memWrite a v).overlayActive = s.overlayActive := by
  rw [State.memWrite_shape]; rfl
@[simp] theorem State.memWrite_hooks (s : State) (a : Word) (v : Byte) : (s.memWrite a v).hooks = s.hooks := by
  rw [State.memWrite_shape]; rfl
@[simp] theorem State.memWrite_cart (s : State) (a : Word) (v : Byte) : (s.memWrite a v).cart = s.cart := by
  rw [State.memWrite_shape]; rfl
@[simp] theorem State.memWrite_header (s : State) (a : Word) (v : Byte) : (s.memWrite a v).header = s.header := by
  rw [State.memWrite_shape]; rfl
@[simp] theorem State.memWrite_bootOverlay (s : State) (a : Word) (v : Byte) : (s.memWrite a v).bootOverlay = s.bootOverlay := by
  rw [State.memWrite_shape]; rfl
@[simp] theorem State.memWrite_config (s : State) (a : Word) (v : Byte) : (s.memWrite a v).config = s.config := by
  rw [State.memWrite_shape]; rfl
@[simp] theorem State.memWrite_mode (s : State) (a : Word) (v : Byte) : (s.memWrite a v).mode = s.mode := by
  rw [State.memWrite_shape]; rfl
@[simp] theorem State.memWrite_clock (s : State) (a : Word) (v : Byte) : (s.memWrite a v).clock = s.clock := by
  rw [State.memWrite_shape]; rfl
@[simp] theorem State.memWrite_canvas (s : State) (a : Word) (v : Byte) : (s.memWrite a v).canvas = s.canvas := by
  rw [State.memWrite_shape]; rfl
@[simp] theorem State.memWrite_frames (s : State) (a : Word) (v : Byte) : (s.memWrite a v).frames = s.frames := by
  rw [State.memWrite_shape]; rfl
@[simp] theorem State.memWrite_tickResult (s : State) (a : Word) (v : Byte) : (s.memWrite a v).tickResult = s.tickResult := by
  rw [State.memWrite_shape]; rfl

@[simp] theorem State.memWrite16_a (s : State) (a v : Word) : (s.memWrite16 a v).a = s.a := by
  rw [State.memWrite16_shape]; rfl
@[simp] theorem State.memWrite16_f (s : State) (a v : Word) : (s.memWrite16 a v).f = s.f := by
  rw [State.memWrite16_shape]; rfl
@[simp] theorem State.memWrite16_b (s : State) (a v : Word) : (s.memWrite16 a v).b = s.b := by
  rw [State.memWrite16_shape]; rfl
@[simp] theorem State.memWrite16_c (s : State) (a v : Word) : (s.memWrite16 a v).c = s.c := by
  rw [State.memWrite16_shape]; rfl
@[simp] theorem State.memWrite16_d (s : State) (a v : Word) : (s.memWrite16 a v).d = s.d := by
  rw [State.memWrite16_shape]; rfl
@[simp] theorem State.memWrite16_e (s : State) (a v : Word) : (s.memWrite16 a v).e = s.e := by
  rw [State.memWrite16_shape]; rfl
@[simp] theorem State.memWrite16_h (s : State) (a v : Word) : (s.memWrite16 a v).h = s.h := by
  rw [State.memWrite16_shape]; rfl
@[simp] theorem State.memWrite16_l (s : State) (a v : Word) : (s.memWrite16 a v).l = s.l := by
  rw [State.memWrite16_shape]; rfl
@[simp] theorem State.memWrite16_pc (s : State) (a v : Word) : (s.memWrite16 a v).pc = s.pc := by
  rw [State.memWrite16_shape]; rfl
@[simp] theorem State.memWrite16_sp (s : State) (a v : Word) : (s.memWrite16 a v).sp = s.sp := by
  rw [State.memWrite16_shape]; rfl
@[simp] theorem State.memWrite16_ime (s : State) (a v : Word) : (s.memWrite16 a v).ime = s.ime := by
  rw [State.memWrite16_shape]; rfl
@[simp] theorem State.memWrite16_halted (s : State) (a v : Word) : (s.memWrite16 a v).halted = s.halted := by
  rw [State.memWrite16_shape]; rfl
@[simp] theorem State.memWrite16_stopped (s : State) (a v : Word) : (s.memWrite16 a v).stopped = s.stopped := by
  rw [State.memWrite16_shape]; rfl
@[simp] theorem State.memWrite16_fault (s : State) (a v : Word) : (s.memWrite16 a v).fault = s.fault := by
  rw [State.memWrite16_shape]; rfl
@[simp] theorem State.memWrite16_breakNext (s : State) (a v : Word) : (s.memWrite16 a v).breakNext = s.breakNext := by
  rw [State.memWrite16_shape]; rfl
@[simp] theorem State.memWrite16_overlayActive (s : State) (a v : Word) : (s.memWrite16 a v).overlayActive = s.overlayActive := by
  rw [State.memWrite16_shape]; rfl
@[simp] theorem State.memWrite16_hooks (s : State) (a v : Word) : (s.memWrite16 a v).hooks = s.hooks := by
  rw [State.memWrite16_shape]; rfl
@[simp] theorem State.memWrite16_cart (s : State) (a v : Word) : (s.memWrite16 a v).cart = s.cart := by
  rw [State.memWrite16_shape]; rfl
@[simp] theorem State.memWrite16_header (s : State) (a v : Word) : (s.memWrite16 a v).header = s.header := by
  rw [State.memWrite16_shape]; rfl
@[simp] theorem State.memWrite16_bootOverlay (s : State) (a v : Word) : (s.memWrite16 a v).bootOverlay = s.bootOverlay := by
  rw [State.memWrite16_shape]; rfl
@[simp] theorem State.memWrite16_config (s : State) (a v : Word) : (s.memWrite16 a v).config = s.config := by
  rw [State.memWrite16_shape]; rfl
@[simp] theorem State.memWrite16_mode (s : State) (a v : Word) : (s.memWrite16 a v).mode = s.mode := by
  rw [State.memWrite16_shape]; rfl
@[simp] theorem State.memWrite16_clock (s : State) (a v : Word) : (s.memWrite16 a v).clock = s.clock := by
  rw [State.memWrite16_shape]; rfl
@[simp] theorem State.memWrite16_canvas (s : State) (a v : Word) : (s.memWrite16 a v).canvas = s.canvas := by
  rw [State.memWrite16_shape]; rfl
@[simp] theorem State.memWrite16_frames (s : State) (a v : Word) : (s.memWrite16 a v).frames = s.frames := by
  rw [State.memWrite16_shape]; rfl
@[simp] theorem State.memWrite16_tickResult (s : State) (a v : Word) : (s.memWrite16 a v).tickResult = s.tickResult := by
  rw [State.memWrite16_shape]; rfl

/-- A hooked write with the reset registry: the store, and on 0xFF44 the Video Timing Engine's hook after it (R73, R345). -/
theorem State.memWrite_of_hooks (s : State) (a : Word) (v : Byte) (hk : s.hooks = HookRegistry.atReset) :
    s.memWrite a v = if a = lyAddr then WriteHook.lyReset.run (s.busStore a v) else s.busStore a v := by
  unfold State.memWrite State.fireWriteHooks
  rw [State.busStore_hooks, hk]
  by_cases h : a = lyAddr
  · subst h; rfl
  · have h' : ¬(0xFF44#16 = a) := fun hh => h (by rw [← hh]; rfl)
    simp [HookRegistry.atReset, h, h']

theorem echoIndex_lt (a : Word) : echoIndex a < 0x10000 := by
  have := a.isLt
  unfold echoIndex
  split <;> omega

theorem State.rawRead_rawWrite (s : State) (a b : Word) (v : Byte) :
    (s.rawWrite a v).rawRead b = if echoIndex b = echoIndex a then v else s.rawRead b :=
  Memory.get_set _ _ _ _

/-- A read of the backing array (R70). -/
theorem State.memRead_raw (s : State) {a : Word} (h : 0x8000 ≤ a.toNat) (hx : ¬(0xA000 ≤ a.toNat ∧ a.toNat ≤ 0xBFFF)) :
    s.memRead a = s.rawRead a := by
  unfold State.memRead
  rw [if_neg (by omega), if_neg (by omega), if_neg (by omega), if_neg hx]

/-- A read of the external RAM window (R72). -/
theorem State.memRead_extRam (s : State) {a : Word} (h : 0xA000 ≤ a.toNat ∧ a.toNat ≤ 0xBFFF) :
    s.memRead a = s.extRamRead a := by
  unfold State.memRead
  rw [if_neg (by omega), if_neg (by omega), if_neg (by omega), if_pos h]

/-- A read below 0x8000 looks at the cartridge, the ROM bank and the overlay alone (R64, R68, R78). -/
theorem State.memRead_low {s t : State} {a : Word} (h : a.toNat < 0x8000) (hc : t.cart = s.cart)
    (hb : t.bootOverlay = s.bootOverlay) (ho : t.overlayActive = s.overlayActive) (hr : t.romBank = s.romBank) :
    t.memRead a = s.memRead a := by
  unfold State.memRead State.romIndex
  rw [hc, hb, ho, hr]
  split_ifs <;> first | rfl | omega

end Sys2Proof.Machine
end

