-- ==== Sys2Proof/Laws/Exec.lean ====
section
/-! SUPPORT. exec by families: one equation for each regular row of the opcode map (R126), the eliminator that reduces a claim
about every instruction to the families, and what an instruction can do at all. -/

namespace Sys2Proof.Machine

theorem exec_ldRR (dst src : Reg8) (s : State) : exec (.ldRR dst src) s = .next (s.ldReg dst src) := by
  cases dst <;> cases src <;> rfl

theorem exec_ldRN (dst : Reg8) (n : Byte) (s : State) : exec (.ldRN dst n) s = .next (s.ldImm dst n) := by
  cases dst <;> rfl

theorem exec_ldRHl (dst : Reg8) (s : State) : exec (.ldRHl dst) s = .next (s.ldFromHl dst) := by
  cases dst <;> rfl

theorem exec_ldHlR (src : Reg8) (s : State) : exec (.ldHlR src) s = .next (s.stToHl src) := by
  cases src <;> rfl

theorem exec_ldPairNn (p : Pair) (nn : Word) (s : State) : exec (.ldPairNn p nn) s = .next (s.ldPair p nn) := by
  cases p <;> rfl

theorem exec_aluR (op : AluOp) (o : Operand8) (h : op ≠ .sbc) (s : State) : exec (.aluR op o) s = .next (s.aluOperand op o) := by
  cases o with
  | reg r => cases op <;> first | exact absurd rfl h | cases r <;> rfl
  | atHl => cases op <;> first | exact absurd rfl h | rfl

theorem exec_aluN (op : AluOp) (n : Byte) (h : op ≠ .sbc) (s : State) : exec (.aluN op n) s = .next (s.aluImm op n) := by
  cases op <;> first | exact absurd rfl h | rfl

theorem exec_incR (o : Operand8) (s : State) : exec (.incR o) s = .next (s.incOperand o) := by
  cases o with
  | reg r => cases r <;> rfl
  | atHl => rfl

theorem exec_decR (o : Operand8) (s : State) : exec (.decR o) s = .next (s.decOperand o) := by
  cases o with
  | reg r => cases r <;> rfl
  | atHl => rfl

theorem exec_addHlPair (p : Pair) (s : State) : exec (.addHlPair p) s = .next (s.addHl p) := by
  cases p <;> rfl

theorem exec_incPair (p : Pair) (s : State) : exec (.incPair p) s = .next (s.stepPair p 1#16) := by
  cases p <;> rfl

theorem exec_decPair (p : Pair) (s : State) : exec (.decPair p) s = .next (s.stepPair p (-1#16)) := by
  cases p <;> rfl

theorem exec_pushPair (p : StackPair) (s : State) : exec (.pushPair p) s = .next (s.pushPair p) := by
  cases p <;> rfl

theorem exec_popPair (p : StackPair) (s : State) : exec (.popPair p) s = .next (s.popPair p) := by
  cases p <;> rfl

theorem exec_jpCc (k : Cond) (nn : Word) (s : State) : exec (.jpCc k nn) s = .next ((s.skip 3).jumpIf k nn) := by
  cases k <;> rfl

theorem exec_jrCc (k : Cond) (e : Byte) (s : State) : exec (.jrCc k e) s = .next ((s.skip 2).jumpIf k (s.relTarget e)) := by
  cases k <;> rfl

theorem exec_callCc (k : Cond) (nn : Word) (s : State) : exec (.callCc k nn) s = .next ((s.skip 3).callIf k nn) := by
  cases k <;> rfl

theorem exec_retCc (k : Cond) (s : State) : exec (.retCc k) s = .next ((s.skip 1).returnIf k) := by
  cases k <;> rfl

theorem exec_rstAt (y : Index8) (s : State) : exec (.rstAt y) s = .next ((s.skip 1).callTo (BitVec.ofNat 16 (8 * y.toNat))) := by
  cases y <;> rfl

theorem exec_rotR (op : RotOp) (o : Operand8) (s : State) : exec (.rotR op o) s = .next (s.rotOperand op o) := by
  cases o with
  | reg r => cases op <;> cases r <;> rfl
  | atHl => cases op <;> rfl

theorem exec_bitR (b : Index8) (o : Operand8) (s : State) : exec (.bitR b o) s = .next (s.bitTest b.toNat o) := by
  cases o with
  | reg r => cases b <;> cases r <;> rfl
  | atHl => cases b <;> rfl

/-- SBC on a register or `(HL)`, or its stub (R135, R204). -/
theorem exec_sbcR (o : Operand8) (s : State) :
    exec (.aluR .sbc o) s =
      .next (s.unlessStubbed (.primary (BitVec.ofNat 8 (0x98 + o.field))) fun t => t.aluOperand .sbc o) := by
  cases o with
  | reg r => cases r <;> rfl
  | atHl => rfl

/-- SBC on an immediate, or its stub (R135, R204). -/
theorem exec_sbcN (n : Byte) (s : State) :
    exec (.aluN .sbc n) s = .next (s.unlessStubbed (.primary 0xDE#8) fun t => t.aluImm .sbc n) := rfl

/-- RES, or its stub (R135, R284). -/
theorem exec_resR (b : Index8) (o : Operand8) (s : State) :
    exec (.resR b o) s = .next (s.unlessStubbed (.extended (BitVec.ofNat 8 (0x80 + 8 * b.toNat + o.field)))
      fun t => t.resBit b.toNat o) := by
  cases o with
  | reg r => cases b <;> cases r <;> rfl
  | atHl => cases b <;> rfl

/-- SET, or its stub (R135, R285). -/
theorem exec_setR (b : Index8) (o : Operand8) (s : State) :
    exec (.setR b o) s = .next (s.unlessStubbed (.extended (BitVec.ofNat 8 (0xC0 + 8 * b.toNat + o.field)))
      fun t => t.setBitOf b.toNat o) := by
  cases o with
  | reg r => cases b <;> cases r <;> rfl
  | atHl => cases b <;> rfl

/-- An illegal opcode latches the fault (R316, R381). -/
theorem exec_illegal (p : Instr × Byte) (hp : p ∈ illegalOpcodes) (s : State) :
    exec p.1 s = .next (s.raiseIllegal (.primary p.2)) := by
  simp only [illegalOpcodes, List.mem_cons, List.not_mem_nil, or_false] at hp
  rcases hp with h | h | h | h | h | h | h | h | h | h | h <;> subst h <;> rfl

/-- A three-bit field names one of the eight bit numbers (R124, R283). -/
theorem Index8.ofField_toNat : ∀ n < 8, (Index8.ofField n).toNat = n := by decide

/-- A property of every instruction, from the regular rows of R126 and the single instructions. -/
theorem Instr.byFamily {Q : Instr → Prop}
    (ldRR : ∀ dst src, Q (.ldRR dst src))
    (ldRN : ∀ dst n, Q (.ldRN dst n))
    (ldRHl : ∀ dst, Q (.ldRHl dst))
    (ldHlR : ∀ src, Q (.ldHlR src))
    (ldPairNn : ∀ p nn, Q (.ldPairNn p nn))
    (aluR : ∀ op o, Q (.aluR op o))
    (aluN : ∀ op n, Q (.aluN op n))
    (incR : ∀ o, Q (.incR o))
    (decR : ∀ o, Q (.decR o))
    (addHlPair : ∀ p, Q (.addHlPair p))
    (incPair : ∀ p, Q (.incPair p))
    (decPair : ∀ p, Q (.decPair p))
    (pushPair : ∀ p, Q (.pushPair p))
    (popPair : ∀ p, Q (.popPair p))
    (jpCc : ∀ p nn, Q (.jpCc p nn))
    (jrCc : ∀ p e, Q (.jrCc p e))
    (callCc : ∀ p nn, Q (.callCc p nn))
    (retCc : ∀ p, Q (.retCc p))
    (rstAt : ∀ y, Q (.rstAt y))
    (rotR : ∀ op o, Q (.rotR op o))
    (bitR : ∀ b o, Q (.bitR b o))
    (resR : ∀ b o, Q (.resR b o))
    (setR : ∀ b o, Q (.setR b o))
    (illegal : ∀ p, p ∈ illegalOpcodes → Q p.1)
    (nop : Q .nop)
    (ldAtBcA : Q .ldAtBcA)
    (rlca : Q .rlca)
    (ldAtNnSp : ∀ nn, Q (.ldAtNnSp nn))
    (ldAAtBc : Q .ldAAtBc)
    (rrca : Q .rrca)
    (stop : Q .stop)
    (ldAtDeA : Q .ldAtDeA)
    (rla : Q .rla)
    (jrDisp : ∀ e, Q (.jrDisp e))
    (ldAAtDe : Q .ldAAtDe)
    (rra : Q .rra)
    (ldAtHlIncA : Q .ldAtHlIncA)
    (daa : Q .daa)
    (ldAAtHlInc : Q .ldAAtHlInc)
    (cpl : Q .cpl)
    (ldAtHlDecA : Q .ldAtHlDecA)
    (ldAtHlN : ∀ n, Q (.ldAtHlN n))
    (scf : Q .scf)
    (ldAAtHlDec : Q .ldAAtHlDec)
    (ccf : Q .ccf)
    (halt : Q .halt)
    (jpNn : ∀ nn, Q (.jpNn nn))
    (ret : Q .ret)
    (prefixCb : Q .prefixCb)
    (callNn : ∀ nn, Q (.callNn nn))
    (reti : Q .reti)
    (ldhAtNA : ∀ n, Q (.ldhAtNA n))
    (ldAtCA : Q .ldAtCA)
    (addSpDisp : ∀ e, Q (.addSpDisp e))
    (jpAtHl : Q .jpAtHl)
    (ldAtNnA : ∀ nn, Q (.ldAtNnA nn))
    (ldhAAtN : ∀ n, Q (.ldhAAtN n))
    (ldAAtC : Q .ldAAtC)
    (di : Q .di)
    (ldHlSpDisp : ∀ e, Q (.ldHlSpDisp e))
    (ldSpHl : Q .ldSpHl)
    (ldAAtNn : ∀ nn, Q (.ldAAtNn nn))
    (ei : Q .ei)
    (i : Instr) : Q i := by
  cases i with
  | nop => exact nop
  | ldBcNn nn => exact ldPairNn .bc nn
  | ldAtBcA => exact ldAtBcA
  | incBc => exact incPair .bc
  | incB => exact incR (.reg .b)
  | decB => exact decR (.reg .b)
  | ldBN n => exact ldRN .b n
  | rlca => exact rlca
  | ldAtNnSp nn => exact ldAtNnSp nn
  | addHlBc => exact addHlPair .bc
  | ldAAtBc => exact ldAAtBc
  | decBc => exact decPair .bc
  | incC => exact incR (.reg .c)
  | decC => exact decR (.reg .c)
  | ldCN n => exact ldRN .c n
  | rrca => exact rrca
  | stop => exact stop
  | ldDeNn nn => exact ldPairNn .de nn
  | ldAtDeA => exact ldAtDeA
  | incDe => exact incPair .de
  | incD => exact incR (.reg .d)
  | decD => exact decR (.reg .d)
  | ldDN n => exact ldRN .d n
  | rla => exact rla
  | jrDisp e => exact jrDisp e
  | addHlDe => exact addHlPair .de
  | ldAAtDe => exact ldAAtDe
  | decDe => exact decPair .de
  | incE => exact incR (.reg .e)
  | decE => exact decR (.reg .e)
  | ldEN n => exact ldRN .e n
  | rra => exact rra
  | jrNzDisp e => exact jrCc .nz e
  | ldHlNn nn => exact ldPairNn .hl nn
  | ldAtHlIncA => exact ldAtHlIncA
  | incHl => exact incPair .hl
  | incH => exact incR (.reg .h)
  | decH => exact decR (.reg .h)
  | ldHN n => exact ldRN .h n
  | daa => exact daa
  | jrZDisp e => exact jrCc .z e
  | addHlHl => exact addHlPair .hl
  | ldAAtHlInc => exact ldAAtHlInc
  | decHl => exact decPair .hl
  | incL => exact incR (.reg .l)
  | decL => exact decR (.reg .l)
  | ldLN n => exact ldRN .l n
  | cpl => exact cpl
  | jrNcDisp e => exact jrCc .nc e
  | ldSpNn nn => exact ldPairNn .sp nn
  | ldAtHlDecA => exact ldAtHlDecA
  | incSp => exact incPair .sp
  | incAtHl => exact incR .atHl
  | decAtHl => exact decR .atHl
  | ldAtHlN n => exact ldAtHlN n
  | scf => exact scf
  | jrCDisp e => exact jrCc .c e
  | addHlSp => exact addHlPair .sp
  | ldAAtHlDec => exact ldAAtHlDec
  | decSp => exact decPair .sp
  | incA => exact incR (.reg .a)
  | decA => exact decR (.reg .a)
  | ldAN n => exact ldRN .a n
  | ccf => exact ccf
  | ldBB => exact ldRR .b .b
  | ldBC => exact ldRR .b .c
  | ldBD => exact ldRR .b .d
  | ldBE => exact ldRR .b .e
  | ldBH => exact ldRR .b .h
  | ldBL => exact ldRR .b .l
  | ldBAtHl => exact ldRHl .b
  | ldBA => exact ldRR .b .a
  | ldCB => exact ldRR .c .b
  | ldCC => exact ldRR .c .c
  | ldCD => exact ldRR .c .d
  | ldCE => exact ldRR .c .e
  | ldCH => exact ldRR .c .h
  | ldCL => exact ldRR .c .l
  | ldCAtHl => exact ldRHl .c
  | ldCA => exact ldRR .c .a
  | ldDB => exact ldRR .d .b
  | ldDC => exact ldRR .d .c
  | ldDD => exact ldRR .d .d
  | ldDE => exact ldRR .d .e
  | ldDH => exact ldRR .d .h
  | ldDL => exact ldRR .d .l
  | ldDAtHl => exact ldRHl .d
  | ldDA => exact ldRR .d .a
  | ldEB => exact ldRR .e .b
  | ldEC => exact ldRR .e .c
  | ldED => exact ldRR .e .d
  | ldEE => exact ldRR .e .e
  | ldEH => exact ldRR .e .h
  | ldEL => exact ldRR .e .l
  | ldEAtHl => exact ldRHl .e
  | ldEA => exact ldRR .e .a
  | ldHB => exact ldRR .h .b
  | ldHC => exact ldRR .h .c
  | ldHD => exact ldRR .h .d
  | ldHE => exact ldRR .h .e
  | ldHH => exact ldRR .h .h
  | ldHL => exact ldRR .h .l
  | ldHAtHl => exact ldRHl .h
  | ldHA => exact ldRR .h .a
  | ldLB => exact ldRR .l .b
  | ldLC => exact ldRR .l .c
  | ldLD => exact ldRR .l .d
  | ldLE => exact ldRR .l .e
  | ldLH => exact ldRR .l .h
  | ldLL => exact ldRR .l .l
  | ldLAtHl => exact ldRHl .l
  | ldLA => exact ldRR .l .a
  | ldAtHlB => exact ldHlR .b
  | ldAtHlC => exact ldHlR .c
  | ldAtHlD => exact ldHlR .d
  | ldAtHlE => exact ldHlR .e
  | ldAtHlH => exact ldHlR .h
  | ldAtHlL => exact ldHlR .l
  | halt => exact halt
  | ldAtHlA => exact ldHlR .a
  | ldAB => exact ldRR .a .b
  | ldAC => exact ldRR .a .c
  | ldAD => exact ldRR .a .d
  | ldAE => exact ldRR .a .e
  | ldAH => exact ldRR .a .h
  | ldAL => exact ldRR .a .l
  | ldAAtHl => exact ldRHl .a
  | ldAA => exact ldRR .a .a
  | addAB => exact aluR .add (.reg .b)
  | addAC => exact aluR .add (.reg .c)
  | addAD => exact aluR .add (.reg .d)
  | addAE => exact aluR .add (.reg .e)
  | addAH => exact aluR .add (.reg .h)
  | addAL => exact aluR .add (.reg .l)
  | addAAtHl => exact aluR .add .atHl
  | addAA => exact aluR .add (.reg .a)
  | adcAB => exact aluR .adc (.reg .b)
  | adcAC => exact aluR .adc (.reg .c)
  | adcAD => exact aluR .adc (.reg .d)
  | adcAE => exact aluR .adc (.reg .e)
  | adcAH => exact aluR .adc (.reg .h)
  | adcAL => exact aluR .adc (.reg .l)
  | adcAAtHl => exact aluR .adc .atHl
  | adcAA => exact aluR .adc (.reg .a)
  | subB => exact aluR .sub (.reg .b)
  | subC => exact aluR .sub (.reg .c)
  | subD => exact aluR .sub (.reg .d)
  | subE => exact aluR .sub (.reg .e)
  | subH => exact aluR .sub (.reg .h)
  | subL => exact aluR .sub (.reg .l)
  | subAtHl => exact aluR .sub .atHl
  | subA => exact aluR .sub (.reg .a)
  | sbcAB => exact aluR .sbc (.reg .b)
  | sbcAC => exact aluR .sbc (.reg .c)
  | sbcAD => exact aluR .sbc (.reg .d)
  | sbcAE => exact aluR .sbc (.reg .e)
  | sbcAH => exact aluR .sbc (.reg .h)
  | sbcAL => exact aluR .sbc (.reg .l)
  | sbcAAtHl => exact aluR .sbc .atHl
  | sbcAA => exact aluR .sbc (.reg .a)
  | andB => exact aluR .and (.reg .b)
  | andC => exact aluR .and (.reg .c)
  | andD => exact aluR .and (.reg .d)
  | andE => exact aluR .and (.reg .e)
  | andH => exact aluR .and (.reg .h)
  | andL => exact aluR .and (.reg .l)
  | andAtHl => exact aluR .and .atHl
  | andA => exact aluR .and (.reg .a)
  | xorB => exact aluR .xor (.reg .b)
  | xorC => exact aluR .xor (.reg .c)
  | xorD => exact aluR .xor (.reg .d)
  | xorE => exact aluR .xor (.reg .e)
  | xorH => exact aluR .xor (.reg .h)
  | xorL => exact aluR .xor (.reg .l)
  | xorAtHl => exact aluR .xor .atHl
  | xorA => exact aluR .xor (.reg .a)
  | orB => exact aluR .or (.reg .b)
  | orC => exact aluR .or (.reg .c)
  | orD => exact aluR .or (.reg .d)
  | orE => exact aluR .or (.reg .e)
  | orH => exact aluR .or (.reg .h)
  | orL => exact aluR .or (.reg .l)
  | orAtHl => exact aluR .or .atHl
  | orA => exact aluR .or (.reg .a)
  | cpB => exact aluR .cp (.reg .b)
  | cpC => exact aluR .cp (.reg .c)
  | cpD => exact aluR .cp (.reg .d)
  | cpE => exact aluR .cp (.reg .e)
  | cpH => exact aluR .cp (.reg .h)
  | cpL => exact aluR .cp (.reg .l)
  | cpAtHl => exact aluR .cp .atHl
  | cpA => exact aluR .cp (.reg .a)
  | retNz => exact retCc .nz
  | popBc => exact popPair .bc
  | jpNzNn nn => exact jpCc .nz nn
  | jpNn nn => exact jpNn nn
  | callNzNn nn => exact callCc .nz nn
  | pushBc => exact pushPair .bc
  | addAN n => exact aluN .add n
  | rst00 => exact rstAt .i0
  | retZ => exact retCc .z
  | ret => exact ret
  | jpZNn nn => exact jpCc .z nn
  | prefixCb => exact prefixCb
  | callZNn nn => exact callCc .z nn
  | callNn nn => exact callNn nn
  | adcAN n => exact aluN .adc n
  | rst08 => exact rstAt .i1
  | retNc => exact retCc .nc
  | popDe => exact popPair .de
  | jpNcNn nn => exact jpCc .nc nn
  | illegalD3 => exact illegal (.illegalD3, 0xD3#8) (by decide)
  | callNcNn nn => exact callCc .nc nn
  | pushDe => exact pushPair .de
  | subN n => exact aluN .sub n
  | rst10 => exact rstAt .i2
  | retC => exact retCc .c
  | reti => exact reti
  | jpCNn nn => exact jpCc .c nn
  | illegalDB => exact illegal (.illegalDB, 0xDB#8) (by decide)
  | callCNn nn => exact callCc .c nn
  | illegalDD => exact illegal (.illegalDD, 0xDD#8) (by decide)
  | sbcAN n => exact aluN .sbc n
  | rst18 => exact rstAt .i3
  | ldhAtNA n => exact ldhAtNA n
  | popHl => exact popPair .hl
  | ldAtCA => exact ldAtCA
  | illegalE3 => exact illegal (.illegalE3, 0xE3#8) (by decide)
  | illegalE4 => exact illegal (.illegalE4, 0xE4#8) (by decide)
  | pushHl => exact pushPair .hl
  | andN n => exact aluN .and n
  | rst20 => exact rstAt .i4
  | addSpDisp e => exact addSpDisp e
  | jpAtHl => exact jpAtHl
  | ldAtNnA nn => exact ldAtNnA nn
  | illegalEB => exact illegal (.illegalEB, 0xEB#8) (by decide)
  | illegalEC => exact illegal (.illegalEC, 0xEC#8) (by decide)
  | illegalED => exact illegal (.illegalED, 0xED#8) (by decide)
  | xorN n => exact aluN .xor n
  | rst28 => exact rstAt .i5
  | ldhAAtN n => exact ldhAAtN n
  | popAf => exact popPair .af
  | ldAAtC => exact ldAAtC
  | di => exact di
  | illegalF4 => exact illegal (.illegalF4, 0xF4#8) (by decide)
  | pushAf => exact pushPair .af
  | orN n => exact aluN .or n
  | rst30 => exact rstAt .i6
  | ldHlSpDisp e => exact ldHlSpDisp e
  | ldSpHl => exact ldSpHl
  | ldAAtNn nn => exact ldAAtNn nn
  | ei => exact ei
  | illegalFC => exact illegal (.illegalFC, 0xFC#8) (by decide)
  | illegalFD => exact illegal (.illegalFD, 0xFD#8) (by decide)
  | cpN n => exact aluN .cp n
  | rst38 => exact rstAt .i7
  | rlcB => exact rotR .rlc (.reg .b)
  | rlcC => exact rotR .rlc (.reg .c)
  | rlcD => exact rotR .rlc (.reg .d)
  | rlcE => exact rotR .rlc (.reg .e)
  | rlcH => exact rotR .rlc (.reg .h)
  | rlcL => exact rotR .rlc (.reg .l)
  | rlcAtHl => exact rotR .rlc .atHl
  | rlcA => exact rotR .rlc (.reg .a)
  | rrcB => exact rotR .rrc (.reg .b)
  | rrcC => exact rotR .rrc (.reg .c)
  | rrcD => exact rotR .rrc (.reg .d)
  | rrcE => exact rotR .rrc (.reg .e)
  | rrcH => exact rotR .rrc (.reg .h)
  | rrcL => exact rotR .rrc (.reg .l)
  | rrcAtHl => exact rotR .rrc .atHl
  | rrcA => exact rotR .rrc (.reg .a)
  | rlB => exact rotR .rl (.reg .b)
  | rlC => exact rotR .rl (.reg .c)
  | rlD => exact rotR .rl (.reg .d)
  | rlE => exact rotR .rl (.reg .e)
  | rlH => exact rotR .rl (.reg .h)
  | rlL => exact rotR .rl (.reg .l)
  | rlAtHl => exact rotR .rl .atHl
  | rlA => exact rotR .rl (.reg .a)
  | rrB => exact rotR .rr (.reg .b)
  | rrC => exact rotR .rr (.reg .c)
  | rrD => exact rotR .rr (.reg .d)
  | rrE => exact rotR .rr (.reg .e)
  | rrH => exact rotR .rr (.reg .h)
  | rrL => exact rotR .rr (.reg .l)
  | rrAtHl => exact rotR .rr .atHl
  | rrA => exact rotR .rr (.reg .a)
  | slaB => exact rotR .sla (.reg .b)
  | slaC => exact rotR .sla (.reg .c)
  | slaD => exact rotR .sla (.reg .d)
  | slaE => exact rotR .sla (.reg .e)
  | slaH => exact rotR .sla (.reg .h)
  | slaL => exact rotR .sla (.reg .l)
  | slaAtHl => exact rotR .sla .atHl
  | slaA => exact rotR .sla (.reg .a)
  | sraB => exact rotR .sra (.reg .b)
  | sraC => exact rotR .sra (.reg .c)
  | sraD => exact rotR .sra (.reg .d)
  | sraE => exact rotR .sra (.reg .e)
  | sraH => exact rotR .sra (.reg .h)
  | sraL => exact rotR .sra (.reg .l)
  | sraAtHl => exact rotR .sra .atHl
  | sraA => exact rotR .sra (.reg .a)
  | swapB => exact rotR .swap (.reg .b)
  | swapC => exact rotR .swap (.reg .c)
  | swapD => exact rotR .swap (.reg .d)
  | swapE => exact rotR .swap (.reg .e)
  | swapH => exact rotR .swap (.reg .h)
  | swapL => exact rotR .swap (.reg .l)
  | swapAtHl => exact rotR .swap .atHl
  | swapA => exact rotR .swap (.reg .a)
  | srlB => exact rotR .srl (.reg .b)
  | srlC => exact rotR .srl (.reg .c)
  | srlD => exact rotR .srl (.reg .d)
  | srlE => exact rotR .srl (.reg .e)
  | srlH => exact rotR .srl (.reg .h)
  | srlL => exact rotR .srl (.reg .l)
  | srlAtHl => exact rotR .srl .atHl
  | srlA => exact rotR .srl (.reg .a)
  | bit0B => exact bitR .i0 (.reg .b)
  | bit0C => exact bitR .i0 (.reg .c)
  | bit0D => exact bitR .i0 (.reg .d)
  | bit0E => exact bitR .i0 (.reg .e)
  | bit0H => exact bitR .i0 (.reg .h)
  | bit0L => exact bitR .i0 (.reg .l)
  | bit0AtHl => exact bitR .i0 .atHl
  | bit0A => exact bitR .i0 (.reg .a)
  | bit1B => exact bitR .i1 (.reg .b)
  | bit1C => exact bitR .i1 (.reg .c)
  | bit1D => exact bitR .i1 (.reg .d)
  | bit1E => exact bitR .i1 (.reg .e)
  | bit1H => exact bitR .i1 (.reg .h)
  | bit1L => exact bitR .i1 (.reg .l)
  | bit1AtHl => exact bitR .i1 .atHl
  | bit1A => exact bitR .i1 (.reg .a)
  | bit2B => exact bitR .i2 (.reg .b)
  | bit2C => exact bitR .i2 (.reg .c)
  | bit2D => exact bitR .i2 (.reg .d)
  | bit2E => exact bitR .i2 (.reg .e)
  | bit2H => exact bitR .i2 (.reg .h)
  | bit2L => exact bitR .i2 (.reg .l)
  | bit2AtHl => exact bitR .i2 .atHl
  | bit2A => exact bitR .i2 (.reg .a)
  | bit3B => exact bitR .i3 (.reg .b)
  | bit3C => exact bitR .i3 (.reg .c)
  | bit3D => exact bitR .i3 (.reg .d)
  | bit3E => exact bitR .i3 (.reg .e)
  | bit3H => exact bitR .i3 (.reg .h)
  | bit3L => exact bitR .i3 (.reg .l)
  | bit3AtHl => exact bitR .i3 .atHl
  | bit3A => exact bitR .i3 (.reg .a)
  | bit4B => exact bitR .i4 (.reg .b)
  | bit4C => exact bitR .i4 (.reg .c)
  | bit4D => exact bitR .i4 (.reg .d)
  | bit4E => exact bitR .i4 (.reg .e)
  | bit4H => exact bitR .i4 (.reg .h)
  | bit4L => exact bitR .i4 (.reg .l)
  | bit4AtHl => exact bitR .i4 .atHl
  | bit4A => exact bitR .i4 (.reg .a)
  | bit5B => exact bitR .i5 (.reg .b)
  | bit5C => exact bitR .i5 (.reg .c)
  | bit5D => exact bitR .i5 (.reg .d)
  | bit5E => exact bitR .i5 (.reg .e)
  | bit5H => exact bitR .i5 (.reg .h)
  | bit5L => exact bitR .i5 (.reg .l)
  | bit5AtHl => exact bitR .i5 .atHl
  | bit5A => exact bitR .i5 (.reg .a)
  | bit6B => exact bitR .i6 (.reg .b)
  | bit6C => exact bitR .i6 (.reg .c)
  | bit6D => exact bitR .i6 (.reg .d)
  | bit6E => exact bitR .i6 (.reg .e)
  | bit6H => exact bitR .i6 (.reg .h)
  | bit6L => exact bitR .i6 (.reg .l)
  | bit6AtHl => exact bitR .i6 .atHl
  | bit6A => exact bitR .i6 (.reg .a)
  | bit7B => exact bitR .i7 (.reg .b)
  | bit7C => exact bitR .i7 (.reg .c)
  | bit7D => exact bitR .i7 (.reg .d)
  | bit7E => exact bitR .i7 (.reg .e)
  | bit7H => exact bitR .i7 (.reg .h)
  | bit7L => exact bitR .i7 (.reg .l)
  | bit7AtHl => exact bitR .i7 .atHl
  | bit7A => exact bitR .i7 (.reg .a)
  | res0B => exact resR .i0 (.reg .b)
  | res0C => exact resR .i0 (.reg .c)
  | res0D => exact resR .i0 (.reg .d)
  | res0E => exact resR .i0 (.reg .e)
  | res0H => exact resR .i0 (.reg .h)
  | res0L => exact resR .i0 (.reg .l)
  | res0AtHl => exact resR .i0 .atHl
  | res0A => exact resR .i0 (.reg .a)
  | res1B => exact resR .i1 (.reg .b)
  | res1C => exact resR .i1 (.reg .c)
  | res1D => exact resR .i1 (.reg .d)
  | res1E => exact resR .i1 (.reg .e)
  | res1H => exact resR .i1 (.reg .h)
  | res1L => exact resR .i1 (.reg .l)
  | res1AtHl => exact resR .i1 .atHl
  | res1A => exact resR .i1 (.reg .a)
  | res2B => exact resR .i2 (.reg .b)
  | res2C => exact resR .i2 (.reg .c)
  | res2D => exact resR .i2 (.reg .d)
  | res2E => exact resR .i2 (.reg .e)
  | res2H => exact resR .i2 (.reg .h)
  | res2L => exact resR .i2 (.reg .l)
  | res2AtHl => exact resR .i2 .atHl
  | res2A => exact resR .i2 (.reg .a)
  | res3B => exact resR .i3 (.reg .b)
  | res3C => exact resR .i3 (.reg .c)
  | res3D => exact resR .i3 (.reg .d)
  | res3E => exact resR .i3 (.reg .e)
  | res3H => exact resR .i3 (.reg .h)
  | res3L => exact resR .i3 (.reg .l)
  | res3AtHl => exact resR .i3 .atHl
  | res3A => exact resR .i3 (.reg .a)
  | res4B => exact resR .i4 (.reg .b)
  | res4C => exact resR .i4 (.reg .c)
  | res4D => exact resR .i4 (.reg .d)
  | res4E => exact resR .i4 (.reg .e)
  | res4H => exact resR .i4 (.reg .h)
  | res4L => exact resR .i4 (.reg .l)
  | res4AtHl => exact resR .i4 .atHl
  | res4A => exact resR .i4 (.reg .a)
  | res5B => exact resR .i5 (.reg .b)
  | res5C => exact resR .i5 (.reg .c)
  | res5D => exact resR .i5 (.reg .d)
  | res5E => exact resR .i5 (.reg .e)
  | res5H => exact resR .i5 (.reg .h)
  | res5L => exact resR .i5 (.reg .l)
  | res5AtHl => exact resR .i5 .atHl
  | res5A => exact resR .i5 (.reg .a)
  | res6B => exact resR .i6 (.reg .b)
  | res6C => exact resR .i6 (.reg .c)
  | res6D => exact resR .i6 (.reg .d)
  | res6E => exact resR .i6 (.reg .e)
  | res6H => exact resR .i6 (.reg .h)
  | res6L => exact resR .i6 (.reg .l)
  | res6AtHl => exact resR .i6 .atHl
  | res6A => exact resR .i6 (.reg .a)
  | res7B => exact resR .i7 (.reg .b)
  | res7C => exact resR .i7 (.reg .c)
  | res7D => exact resR .i7 (.reg .d)
  | res7E => exact resR .i7 (.reg .e)
  | res7H => exact resR .i7 (.reg .h)
  | res7L => exact resR .i7 (.reg .l)
  | res7AtHl => exact resR .i7 .atHl
  | res7A => exact resR .i7 (.reg .a)
  | set0B => exact setR .i0 (.reg .b)
  | set0C => exact setR .i0 (.reg .c)
  | set0D => exact setR .i0 (.reg .d)
  | set0E => exact setR .i0 (.reg .e)
  | set0H => exact setR .i0 (.reg .h)
  | set0L => exact setR .i0 (.reg .l)
  | set0AtHl => exact setR .i0 .atHl
  | set0A => exact setR .i0 (.reg .a)
  | set1B => exact setR .i1 (.reg .b)
  | set1C => exact setR .i1 (.reg .c)
  | set1D => exact setR .i1 (.reg .d)
  | set1E => exact setR .i1 (.reg .e)
  | set1H => exact setR .i1 (.reg .h)
  | set1L => exact setR .i1 (.reg .l)
  | set1AtHl => exact setR .i1 .atHl
  | set1A => exact setR .i1 (.reg .a)
  | set2B => exact setR .i2 (.reg .b)
  | set2C => exact setR .i2 (.reg .c)
  | set2D => exact setR .i2 (.reg .d)
  | set2E => exact setR .i2 (.reg .e)
  | set2H => exact setR .i2 (.reg .h)
  | set2L => exact setR .i2 (.reg .l)
  | set2AtHl => exact setR .i2 .atHl
  | set2A => exact setR .i2 (.reg .a)
  | set3B => exact setR .i3 (.reg .b)
  | set3C => exact setR .i3 (.reg .c)
  | set3D => exact setR .i3 (.reg .d)
  | set3E => exact setR .i3 (.reg .e)
  | set3H => exact setR .i3 (.reg .h)
  | set3L => exact setR .i3 (.reg .l)
  | set3AtHl => exact setR .i3 .atHl
  | set3A => exact setR .i3 (.reg .a)
  | set4B => exact setR .i4 (.reg .b)
  | set4C => exact setR .i4 (.reg .c)
  | set4D => exact setR .i4 (.reg .d)
  | set4E => exact setR .i4 (.reg .e)
  | set4H => exact setR .i4 (.reg .h)
  | set4L => exact setR .i4 (.reg .l)
  | set4AtHl => exact setR .i4 .atHl
  | set4A => exact setR .i4 (.reg .a)
  | set5B => exact setR .i5 (.reg .b)
  | set5C => exact setR .i5 (.reg .c)
  | set5D => exact setR .i5 (.reg .d)
  | set5E => exact setR .i5 (.reg .e)
  | set5H => exact setR .i5 (.reg .h)
  | set5L => exact setR .i5 (.reg .l)
  | set5AtHl => exact setR .i5 .atHl
  | set5A => exact setR .i5 (.reg .a)
  | set6B => exact setR .i6 (.reg .b)
  | set6C => exact setR .i6 (.reg .c)
  | set6D => exact setR .i6 (.reg .d)
  | set6E => exact setR .i6 (.reg .e)
  | set6H => exact setR .i6 (.reg .h)
  | set6L => exact setR .i6 (.reg .l)
  | set6AtHl => exact setR .i6 .atHl
  | set6A => exact setR .i6 (.reg .a)
  | set7B => exact setR .i7 (.reg .b)
  | set7C => exact setR .i7 (.reg .c)
  | set7D => exact setR .i7 (.reg .d)
  | set7E => exact setR .i7 (.reg .e)
  | set7H => exact setR .i7 (.reg .h)
  | set7L => exact setR .i7 (.reg .l)
  | set7AtHl => exact setR .i7 .atHl
  | set7A => exact setR .i7 (.reg .a)

end Sys2Proof.Machine
end

