-- ==== Sys2Proof/Laws/Effect.lean ====
section
/-! SUPPORT. What an instruction can do, said once for all of them: it answers a next state; everything outside the CPU
registers is the result of its listed hooked writes; a fault is the record of R381 with nothing else changed but PC; and
`halted`, `stopped` and IME move only as R27 to R29 say. -/

namespace Sys2Proof.Machine

/-- The effect of an instruction `i` from `s` to `t`, as far as invariants need it. -/
structure InstrEffect (i : Instr) (s t : State) : Prop where
  bus : t = (s.writeAll (storesOf i s)).withCpuOf t
  fault : t.fault = s.fault ∨ ∃ op, t = s.raiseIllegal op
  halted : t.halted = s.halted ∨ i = .halt
  stopped : t.stopped = s.stopped ∨ i = .stop
  ime : t.ime = s.ime ∨ i = .di ∨ i = .ei ∨ i = .reti

/-- An instruction that moves CPU registers only. -/
theorem InstrEffect.ofRegisters {i : Instr} {s t : State} (hs : storesOf i s = []) (ht : t = s.withCpuOf t)
    (hf : t.fault = s.fault) (hh : t.halted = s.halted) (hp : t.stopped = s.stopped) (hi : t.ime = s.ime) :
    InstrEffect i s t where
  bus := by rw [hs]; exact ht
  fault := .inl hf
  halted := .inl hh
  stopped := .inl hp
  ime := .inl hi

/-- An instruction whose stores are `ws`, the CPU registers of the result being those of `u`. -/
theorem InstrEffect.ofStores {i : Instr} {s t u : State} (ws : List (Word × Byte)) (hs : storesOf i s = ws)
    (ht : t = (s.writeAll ws).withCpuOf u) (hf : u.fault = s.fault) (hh : u.halted = s.halted)
    (hp : u.stopped = s.stopped) (hi : u.ime = s.ime) : InstrEffect i s t := by
  subst hs
  subst ht
  exact ⟨rfl, .inl hf, .inl hh, .inl hp, .inl hi⟩

/-- An instruction that faults. -/
theorem InstrEffect.ofFault {i : Instr} {s : State} (op : OpcodeValue) (hs : storesOf i s = []) :
    InstrEffect i s (s.raiseIllegal op) where
  bus := by rw [hs]; rfl
  fault := .inr ⟨op, rfl⟩
  halted := .inl rfl
  stopped := .inl rfl
  ime := .inl rfl

theorem State.skip_memWrite (s : State) (n : Nat) (a : Word) (v : Byte) :
    (s.skip n).memWrite a v = (s.memWrite a v).withCpuOf (s.skip n) :=
  State.memWrite_withCpuOf s (s.skip n) a v

theorem State.skip_memWrite16 (s : State) (n : Nat) (a v : Word) :
    (s.skip n).memWrite16 a v = (s.memWrite16 a v).withCpuOf (s.skip n) :=
  State.memWrite16_withCpuOf s (s.skip n) a v

/-- A push after the fetch, as the two stores on the state before it. -/
theorem State.skip_push16 (s : State) (n : Nat) (v : Word) :
    (s.skip n).push16 v =
      (s.writeAll (pushStores s v)).withCpuOf { s.skip n with sp := s.sp - 2#16 } :=
  State.memWrite16_withCpuOf s { s.skip n with sp := s.sp - 2#16 } (s.sp - 2#16) v

/-- Writing an operand after the fetch: a register, or one hooked write at HL. -/
theorem State.skip_setOperand_atHl (s : State) (n : Nat) (v : Byte) :
    (s.skip n).setOperand .atHl v = (s.writeAll [(s.pair .hl, v)]).withCpuOf (s.skip n) :=
  State.memWrite_withCpuOf s (s.skip n) _ v

theorem effect_operandForm {i : Instr} {s : State} (n : Nat) (o : Operand8) (v : Byte) (f : Flags)
    (hs : storesOf i s = match o with | .reg _ => [] | .atHl => [(s.pair .hl, v)]) :
    InstrEffect i s { (s.skip n).setOperand o v with f := f } := by
  cases o with
  | reg r => cases r <;> exact .ofRegisters hs rfl rfl rfl rfl rfl
  | atHl =>
    refine .ofStores (u := { s.skip n with f := f }) _ hs ?_ rfl rfl rfl rfl
    rw [State.skip_setOperand_atHl]; rfl

theorem effect_operandWrite {i : Instr} {s : State} (n : Nat) (o : Operand8) (v : Byte)
    (hs : storesOf i s = match o with | .reg _ => [] | .atHl => [(s.pair .hl, v)]) :
    InstrEffect i s ((s.skip n).setOperand o v) := by
  cases o with
  | reg r => cases r <;> exact .ofRegisters hs rfl rfl rfl rfl rfl
  | atHl => exact .ofStores _ hs (State.skip_setOperand_atHl s n v) rfl rfl rfl rfl

theorem effect_stubbed {i : Instr} {s : State} (op : OpcodeValue) (run : State → State)
    (hstub : s.config.stubOptional = true → storesOf i s = [])
    (hrun : s.config.stubOptional = false → InstrEffect i s (run s)) :
    InstrEffect i s (s.unlessStubbed op run) := by
  unfold State.unlessStubbed
  by_cases h : s.config.stubOptional = true
  · rw [if_pos h]; exact .ofFault op (hstub h)
  · rw [if_neg h]; exact hrun (by simpa using h)

theorem effect_callTo {i : Instr} {s : State} (n : Nat) (target : Word)
    (hs : storesOf i s = pushStores s (s.skip n).pc) : InstrEffect i s ((s.skip n).callTo target) := by
  refine .ofStores (u := { s.skip n with sp := s.sp - 2#16, pc := target }) _ hs ?_ rfl rfl rfl rfl
  unfold State.callTo
  rw [State.skip_push16]; rfl

theorem storesOf_extended (op2 : Byte) (s : State) : storesOf (decodeExtended op2) s = extendedStores op2 s := by
  obtain ⟨n, hn⟩ : ∃ n, op2 = BitVec.ofNat 8 n ∧ n < 256 := ⟨op2.toNat, by simp, op2.isLt⟩
  obtain ⟨rfl, hlt⟩ := hn
  interval_cases n <;> rfl

/-- The entry byte runs the extended instruction (R120, R315). -/
theorem exec_decodeExtended (op2 : Byte) (s : State) : exec (decodeExtended op2) s = .next (s.runExtended op2) := by
  obtain ⟨n, hn⟩ : ∃ n, op2 = BitVec.ofNat 8 n ∧ n < 256 := ⟨op2.toNat, by simp, op2.isLt⟩
  obtain ⟨rfl, hlt⟩ := hn
  interval_cases n <;> rfl

theorem decodeExtended_plain (op2 : Byte) :
    decodeExtended op2 ≠ .halt ∧ decodeExtended op2 ≠ .stop ∧ decodeExtended op2 ≠ .di ∧
      decodeExtended op2 ≠ .ei ∧ decodeExtended op2 ≠ .reti := by
  obtain ⟨n, hn⟩ : ∃ n, op2 = BitVec.ofNat 8 n ∧ n < 256 := ⟨op2.toNat, by simp, op2.isLt⟩
  obtain ⟨rfl, hlt⟩ := hn
  interval_cases n <;> exact ⟨nofun, nofun, nofun, nofun, nofun⟩

/-- What an instruction of the regular extended rows does. -/
theorem effect_rotR (op : RotOp) (o : Operand8) (s : State) : InstrEffect (.rotR op o) s (s.rotOperand op o) := by
  refine effect_operandForm 2 o _ _ ?_
  cases o with
  | reg r => cases op <;> cases r <;> rfl
  | atHl => cases op <;> rfl

theorem effect_bitR (b : Index8) (o : Operand8) (s : State) : InstrEffect (.bitR b o) s (s.bitTest b.toNat o) := by
  refine .ofRegisters ?_ rfl rfl rfl rfl rfl
  cases o with
  | reg r => cases b <;> cases r <;> rfl
  | atHl => cases b <;> rfl

theorem storesOf_resR (b : Index8) (o : Operand8) (s : State) : storesOf (.resR b o) s =
    match o with
    | .reg _ => []
    | .atHl => if s.config.stubOptional then [] else [(s.pair .hl, clearBit (s.operand .atHl) b.toNat)] := by
  cases o with
  | reg r => cases b <;> cases r <;> rfl
  | atHl => cases b <;> rfl

theorem storesOf_setR (b : Index8) (o : Operand8) (s : State) : storesOf (.setR b o) s =
    match o with
    | .reg _ => []
    | .atHl => if s.config.stubOptional then [] else [(s.pair .hl, setBit (s.operand .atHl) b.toNat)] := by
  cases o with
  | reg r => cases b <;> cases r <;> rfl
  | atHl => cases b <;> rfl

theorem effect_resR (b : Index8) (o : Operand8) (op : OpcodeValue) (s : State) :
    InstrEffect (.resR b o) s (s.unlessStubbed op fun t => t.resBit b.toNat o) := by
  refine effect_stubbed op _ (fun h => ?_) (fun h => effect_operandWrite 2 o _ ?_)
  · rw [storesOf_resR]; cases o <;> simp [h]
  · rw [storesOf_resR]; cases o <;> simp [h]

theorem effect_setR (b : Index8) (o : Operand8) (op : OpcodeValue) (s : State) :
    InstrEffect (.setR b o) s (s.unlessStubbed op fun t => t.setBitOf b.toNat o) := by
  refine effect_stubbed op _ (fun h => ?_) (fun h => effect_operandWrite 2 o _ ?_)
  · rw [storesOf_setR]; cases o <;> simp [h]
  · rw [storesOf_setR]; cases o <;> simp [h]

theorem effect_aluR (op : AluOp) (o : Operand8) (s : State) :
    ∃ t, exec (.aluR op o) s = .next t ∧ InstrEffect (.aluR op o) s t := by
  have hs : storesOf (.aluR op o) s = [] := by
    cases o with
    | reg r => cases op <;> cases r <;> rfl
    | atHl => cases op <;> rfl
  by_cases h : op = .sbc
  · subst h
    exact ⟨_, exec_sbcR o s, effect_stubbed _ _ (fun _ => hs) fun _ => .ofRegisters hs rfl rfl rfl rfl rfl⟩
  · exact ⟨_, exec_aluR op o h s, .ofRegisters hs rfl rfl rfl rfl rfl⟩

theorem effect_aluN (op : AluOp) (n : Byte) (s : State) :
    ∃ t, exec (.aluN op n) s = .next t ∧ InstrEffect (.aluN op n) s t := by
  have hs : storesOf (.aluN op n) s = [] := by cases op <;> rfl
  by_cases h : op = .sbc
  · subst h
    exact ⟨_, exec_sbcN n s, effect_stubbed _ _ (fun _ => hs) fun _ => .ofRegisters hs rfl rfl rfl rfl rfl⟩
  · exact ⟨_, exec_aluN op n h s, .ofRegisters hs rfl rfl rfl rfl rfl⟩

theorem effect_popPair (p : StackPair) (s : State) : InstrEffect (.popPair p) s (s.popPair p) := by
  cases p <;> exact .ofRegisters rfl rfl rfl rfl rfl rfl

theorem effect_jumpIf {i : Instr} {s : State} (n : Nat) (k : Cond) (target : Word) (hs : storesOf i s = []) :
    InstrEffect i s ((s.skip n).jumpIf k target) := by
  unfold State.jumpIf
  split <;> exact .ofRegisters hs rfl rfl rfl rfl rfl

theorem effect_callIf (k : Cond) (nn : Word) (s : State) :
    InstrEffect (.callCc k nn) s ((s.skip 3).callIf k nn) := by
  have hs : storesOf (.callCc k nn) s = if condHolds k s.f then pushStores s (s.pc + 3#16) else [] := by
    cases k <;> rfl
  have hf : (s.skip 3).f = s.f := rfl
  unfold State.callIf
  rw [hf]
  by_cases h : condHolds k s.f = true
  · rw [if_pos h] at hs ⊢; exact effect_callTo 3 nn hs
  · rw [if_neg h] at hs ⊢; exact .ofRegisters hs rfl rfl rfl rfl rfl

theorem effect_returnIf (k : Cond) (s : State) : InstrEffect (.retCc k) s ((s.skip 1).returnIf k) := by
  have hs : storesOf (.retCc k) s = [] := by cases k <;> rfl
  unfold State.returnIf
  split <;> exact .ofRegisters hs rfl rfl rfl rfl rfl

theorem effect_illegal (p : Instr × Byte) (hp : p ∈ illegalOpcodes) (s : State) :
    InstrEffect p.1 s (s.raiseIllegal (.primary p.2)) := by
  refine .ofFault _ ?_
  simp only [illegalOpcodes, List.mem_cons, List.not_mem_nil, or_false] at hp
  rcases hp with h | h | h | h | h | h | h | h | h | h | h <;> subst h <;> rfl

theorem effect_decodeExtended (op2 : Byte) (s : State) :
    ∃ t, exec (decodeExtended op2) s = .next t ∧ InstrEffect (decodeExtended op2) s t := by
  unfold decodeExtended
  split
  · exact ⟨_, exec_rotR _ _ s, effect_rotR _ _ s⟩
  · exact ⟨_, exec_bitR _ _ s, effect_bitR _ _ s⟩
  · exact ⟨_, exec_resR _ _ s, effect_resR _ _ _ s⟩
  · exact ⟨_, exec_setR _ _ s, effect_setR _ _ _ s⟩

theorem effect_runExtended (op2 : Byte) (s : State) :
    InstrEffect (decodeExtended op2) s (s.runExtended op2) := by
  obtain ⟨t, ht, he⟩ := effect_decodeExtended op2 s
  rw [exec_decodeExtended] at ht
  injection ht with ht
  exact ht ▸ he

theorem effect_prefixCb (s : State) : InstrEffect .prefixCb s (s.runExtended (s.memRead (s.pc + 1#16))) := by
  have h := effect_runExtended (s.memRead (s.pc + 1#16)) s
  obtain ⟨h1, h2, h3, h4, h5⟩ := decodeExtended_plain (s.memRead (s.pc + 1#16))
  exact
    { bus := by have hb := h.bus; rwa [storesOf_extended] at hb
      fault := h.fault
      halted := .inl (h.halted.resolve_right h1)
      stopped := .inl (h.stopped.resolve_right h2)
      ime := .inl (h.ime.resolve_right (by simp [h3, h4, h5])) }

/-- Every instruction answers a next state, and changes no more than its effect says. -/
theorem exec_effect (i : Instr) (s : State) : ∃ t, exec i s = .next t ∧ InstrEffect i s t := by
  refine Instr.byFamily (Q := fun i => ∃ t, exec i s = .next t ∧ InstrEffect i s t)
    (ldRR := fun dst src => ⟨_, exec_ldRR dst src s, by cases dst <;> cases src <;> exact .ofRegisters rfl rfl rfl rfl rfl rfl⟩)
    (ldRN := fun dst n => ⟨_, exec_ldRN dst n s, by cases dst <;> exact .ofRegisters rfl rfl rfl rfl rfl rfl⟩)
    (ldRHl := fun dst => ⟨_, exec_ldRHl dst s, by cases dst <;> exact .ofRegisters rfl rfl rfl rfl rfl rfl⟩)
    (ldHlR := fun src => ⟨_, exec_ldHlR src s, .ofStores [(s.pair .hl, s.reg src)] (by cases src <;> rfl)
      (State.skip_memWrite s 1 _ _) rfl rfl rfl rfl⟩)
    (ldPairNn := fun p nn => ⟨_, exec_ldPairNn p nn s, by cases p <;> exact .ofRegisters rfl rfl rfl rfl rfl rfl⟩)
    (aluR := fun op o => effect_aluR op o s)
    (aluN := fun op n => effect_aluN op n s)
    (incR := fun o => ⟨_, exec_incR o s, effect_operandForm 1 o _ _ (by
      cases o with
      | reg r => cases r <;> rfl
      | atHl => rfl)⟩)
    (decR := fun o => ⟨_, exec_decR o s, effect_operandForm 1 o _ _ (by
      cases o with
      | reg r => cases r <;> rfl
      | atHl => rfl)⟩)
    (addHlPair := fun p => ⟨_, exec_addHlPair p s, by cases p <;> exact .ofRegisters rfl rfl rfl rfl rfl rfl⟩)
    (incPair := fun p => ⟨_, exec_incPair p s, by cases p <;> exact .ofRegisters rfl rfl rfl rfl rfl rfl⟩)
    (decPair := fun p => ⟨_, exec_decPair p s, by cases p <;> exact .ofRegisters rfl rfl rfl rfl rfl rfl⟩)
    (pushPair := fun p => ⟨_, exec_pushPair p s, .ofStores (u := { s.skip 1 with sp := s.sp - 2#16 })
      (pushStores s (s.stackPair p)) (by cases p <;> rfl) (State.skip_push16 s 1 _) rfl rfl rfl rfl⟩)
    (popPair := fun p => ⟨_, exec_popPair p s, effect_popPair p s⟩)
    (jpCc := fun k nn => ⟨_, exec_jpCc k nn s, effect_jumpIf 3 k nn (by cases k <;> rfl)⟩)
    (jrCc := fun k e => ⟨_, exec_jrCc k e s, effect_jumpIf 2 k _ (by cases k <;> rfl)⟩)
    (callCc := fun k nn => ⟨_, exec_callCc k nn s, effect_callIf k nn s⟩)
    (retCc := fun k => ⟨_, exec_retCc k s, effect_returnIf k s⟩)
    (rstAt := fun y => ⟨_, exec_rstAt y s, effect_callTo 1 _ (by cases y <;> rfl)⟩)
    (rotR := fun op o => ⟨_, exec_rotR op o s, effect_rotR op o s⟩)
    (bitR := fun b o => ⟨_, exec_bitR b o s, effect_bitR b o s⟩)
    (resR := fun b o => ⟨_, exec_resR b o s, effect_resR b o _ s⟩)
    (setR := fun b o => ⟨_, exec_setR b o s, effect_setR b o _ s⟩)
    (illegal := fun p hp => ⟨_, exec_illegal p hp s, effect_illegal p hp s⟩)
    (nop := ⟨_, rfl, .ofRegisters rfl rfl rfl rfl rfl rfl⟩)
    (ldAtBcA := ⟨_, rfl, .ofStores _ rfl (State.skip_memWrite s 1 _ _) rfl rfl rfl rfl⟩)
    (rlca := ⟨_, rfl, .ofRegisters rfl rfl rfl rfl rfl rfl⟩)
    (ldAtNnSp := fun nn => ⟨_, rfl, .ofStores _ rfl (State.skip_memWrite16 s 3 _ _) rfl rfl rfl rfl⟩)
    (ldAAtBc := ⟨_, rfl, .ofRegisters rfl rfl rfl rfl rfl rfl⟩)
    (rrca := ⟨_, rfl, .ofRegisters rfl rfl rfl rfl rfl rfl⟩)
    (stop := ⟨_, rfl, ⟨rfl, .inl rfl, .inl rfl, .inr rfl, .inl rfl⟩⟩)
    (ldAtDeA := ⟨_, rfl, .ofStores _ rfl (State.skip_memWrite s 1 _ _) rfl rfl rfl rfl⟩)
    (rla := ⟨_, rfl, .ofRegisters rfl rfl rfl rfl rfl rfl⟩)
    (jrDisp := fun e => ⟨_, rfl, .ofRegisters rfl rfl rfl rfl rfl rfl⟩)
    (ldAAtDe := ⟨_, rfl, .ofRegisters rfl rfl rfl rfl rfl rfl⟩)
    (rra := ⟨_, rfl, .ofRegisters rfl rfl rfl rfl rfl rfl⟩)
    (ldAtHlIncA := ⟨_, rfl, .ofStores (u := (s.skip 1).moveHl _) _ rfl
      (by unfold State.storeA; rw [State.skip_memWrite]; rfl) rfl rfl rfl rfl⟩)
    (daa := ⟨_, rfl, .ofRegisters rfl rfl rfl rfl rfl rfl⟩)
    (ldAAtHlInc := ⟨_, rfl, .ofRegisters rfl rfl rfl rfl rfl rfl⟩)
    (cpl := ⟨_, rfl, .ofRegisters rfl rfl rfl rfl rfl rfl⟩)
    (ldAtHlDecA := ⟨_, rfl, .ofStores (u := (s.skip 1).moveHl _) _ rfl
      (by unfold State.storeA; rw [State.skip_memWrite]; rfl) rfl rfl rfl rfl⟩)
    (ldAtHlN := fun n => ⟨_, rfl, .ofStores _ rfl (State.skip_memWrite s 2 _ _) rfl rfl rfl rfl⟩)
    (scf := ⟨_, rfl, .ofRegisters rfl rfl rfl rfl rfl rfl⟩)
    (ldAAtHlDec := ⟨_, rfl, .ofRegisters rfl rfl rfl rfl rfl rfl⟩)
    (ccf := ⟨_, rfl, .ofRegisters rfl rfl rfl rfl rfl rfl⟩)
    (halt := ⟨_, rfl, ⟨rfl, .inl rfl, .inr rfl, .inl rfl, .inl rfl⟩⟩)
    (jpNn := fun nn => ⟨_, rfl, .ofRegisters rfl rfl rfl rfl rfl rfl⟩)
    (ret := ⟨_, rfl, .ofRegisters rfl rfl rfl rfl rfl rfl⟩)
    (prefixCb := ⟨_, rfl, effect_prefixCb s⟩)
    (callNn := fun nn => ⟨_, rfl, effect_callTo 3 nn rfl⟩)
    (reti := ⟨_, rfl, ⟨rfl, .inl rfl, .inl rfl, .inl rfl, .inr (.inr (.inr rfl))⟩⟩)
    (ldhAtNA := fun n => ⟨_, rfl, .ofStores _ rfl (State.skip_memWrite s 2 _ _) rfl rfl rfl rfl⟩)
    (ldAtCA := ⟨_, rfl, .ofStores _ rfl (State.skip_memWrite s 1 _ _) rfl rfl rfl rfl⟩)
    (addSpDisp := fun e => ⟨_, rfl, .ofRegisters rfl rfl rfl rfl rfl rfl⟩)
    (jpAtHl := ⟨_, rfl, .ofRegisters rfl rfl rfl rfl rfl rfl⟩)
    (ldAtNnA := fun nn => ⟨_, rfl, .ofStores _ rfl (State.skip_memWrite s 3 _ _) rfl rfl rfl rfl⟩)
    (ldhAAtN := fun n => ⟨_, rfl, .ofRegisters rfl rfl rfl rfl rfl rfl⟩)
    (ldAAtC := ⟨_, rfl, .ofRegisters rfl rfl rfl rfl rfl rfl⟩)
    (di := ⟨_, rfl, ⟨rfl, .inl rfl, .inl rfl, .inl rfl, .inr (.inl rfl)⟩⟩)
    (ldHlSpDisp := fun e => ⟨_, rfl, .ofRegisters rfl rfl rfl rfl rfl rfl⟩)
    (ldSpHl := ⟨_, rfl, .ofRegisters rfl rfl rfl rfl rfl rfl⟩)
    (ldAAtNn := fun nn => ⟨_, rfl, .ofRegisters rfl rfl rfl rfl rfl rfl⟩)
    (ei := ⟨_, rfl, ⟨rfl, .inl rfl, .inl rfl, .inl rfl, .inr (.inr (.inl rfl))⟩⟩)
    i

/-- exec never stops: no fault and no refusal. -/
theorem exec_next (i : Instr) (s : State) : ∃ t, exec i s = .next t :=
  (exec_effect i s).imp fun _ h => h.1

/-- The effect, from the answer. -/
theorem effect_of_exec {i : Instr} {s t : State} (h : exec i s = .next t) : InstrEffect i s t := by
  obtain ⟨u, hu, he⟩ := exec_effect i s
  rw [hu] at h
  injection h with h
  exact h ▸ he

end Sys2Proof.Machine
end

