-- ==== Sys2Proof/Laws/Keep.lean ====
section
/-! SUPPORT. Every memory operation keeps the canonical form and the sizes of the stores, and the bank indices in range. -/

namespace Sys2Proof.Machine

/-- The stores are well formed and the bank indices in range: what a hooked write needs and keeps. -/
def State.BusOk (s : State) : Prop := s.MemoryOk ∧ s.BanksOk

theorem State.memoryOk_rawWrite {s : State} (h : s.MemoryOk) (a : Word) (v : Byte) : (s.rawWrite a v).MemoryOk where
  mem := Memory.wf_set _ _ h.mem
  memBound p hp := by
    rcases Memory.mem_set hp with rfl | hp
    · exact echoIndex_lt a
    · exact h.memBound p hp
  extram := h.extram
  extramBound := h.extramBound

theorem State.busOk_rawWrite {s : State} (h : s.BusOk) (a : Word) (v : Byte) : (s.rawWrite a v).BusOk :=
  ⟨State.memoryOk_rawWrite h.1 a v, h.2.rom, h.2.ram⟩

theorem bankSelect_lt (v : Byte) {banks : Nat} (h : 0 < banks) : bankSelect v banks < banks := by
  unfold bankSelect
  rw [if_neg (by omega)]
  exact Nat.mod_lt _ h

theorem bankSelect_lt_max (v : Byte) (banks : Nat) : bankSelect v banks < max banks 1 := by
  by_cases h : banks = 0
  · subst h; exact Nat.one_pos
  · exact lt_of_lt_of_le (bankSelect_lt v (by omega)) (le_max_left _ _)

theorem State.busOk_bankControl {s : State} (h : s.BusOk) (a : Word) (v : Byte) : (s.bankControl a v).BusOk := by
  obtain ⟨hm, hb⟩ := h
  have hpos : 0 < s.header.romBanks := by have := hb.rom; omega
  unfold State.bankControl
  split
  · exact ⟨hm, hb⟩
  · split
    · exact ⟨⟨hm.mem, hm.memBound, hm.extram, hm.extramBound⟩, hb.rom, hb.ram⟩
    · split
      · exact ⟨⟨hm.mem, hm.memBound, hm.extram, hm.extramBound⟩, bankSelect_lt v hpos, hb.ram⟩
      · split
        · exact ⟨⟨hm.mem, hm.memBound, hm.extram, hm.extramBound⟩, hb.rom, bankSelect_lt_max v _⟩
        · exact ⟨hm, hb⟩

theorem State.busOk_extRamWrite {s : State} (h : s.BusOk) {a : Word} (ha : 0xA000 ≤ a.toNat ∧ a.toNat ≤ 0xBFFF)
    (v : Byte) : (s.extRamWrite a v).BusOk := by
  obtain ⟨hm, hb⟩ := h
  unfold State.extRamWrite
  split
  · rename_i hon
    have hbanks : 0 < s.header.ramBanks := by
      simp only [State.extRamOn, Bool.and_eq_true, decide_eq_true_eq] at hon
      exact hon.2
    have hram := hb.ram
    have hmax : max s.header.ramBanks 1 = s.header.ramBanks := by omega
    refine ⟨⟨hm.mem, hm.memBound, Memory.wf_set _ _ hm.extram, fun p hp => ?_⟩, hb.rom, hb.ram⟩
    rcases Memory.mem_set hp with rfl | hp
    · show s.ramBank * 0x2000 + (a.toNat - 0xA000) < s.header.ramBanks * 0x2000
      rw [hmax] at hram
      omega
    · exact hm.extramBound p hp
  · exact ⟨hm, hb⟩

theorem State.busOk_busStore {s : State} (h : s.BusOk) (a : Word) (v : Byte) : (s.busStore a v).BusOk := by
  unfold State.busStore
  split
  · exact State.busOk_bankControl h a v
  · split
    · rename_i ha
      exact State.busOk_extRamWrite h ha v
    · exact State.busOk_rawWrite h a v

theorem WriteHook.busOk_run {s : State} (h : s.BusOk) (k : WriteHook) : (k.run s).BusOk := by
  cases k
  exact State.busOk_rawWrite (s := { s with line := 0 })
    ⟨⟨h.1.mem, h.1.memBound, h.1.extram, h.1.extramBound⟩, h.2.rom, h.2.ram⟩ lyAddr 0x00#8

/-- A hooked write keeps the stores well formed and the bank indices in range. -/
theorem State.busOk_memWrite {s : State} (h : s.BusOk) (a : Word) (v : Byte) : (s.memWrite a v).BusOk := by
  unfold State.memWrite State.fireWriteHooks
  have hb := State.busOk_busStore h a v
  generalize s.busStore a v = u at hb ⊢
  generalize u.hooks.writes.filter (fun p => decide (p.1 = a)) = ks
  induction ks generalizing u with
  | nil => exact hb
  | cons p rest ih => exact ih _ (WriteHook.busOk_run hb p.2)

theorem State.busOk_memWrite16 {s : State} (h : s.BusOk) (a v : Word) : (s.memWrite16 a v).BusOk :=
  State.busOk_memWrite (State.busOk_memWrite h a _) _ _

theorem State.busOk_writeAll {s : State} (h : s.BusOk) (ws : List (Word × Byte)) : (s.writeAll ws).BusOk := by
  induction ws generalizing s with
  | nil => exact h
  | cons p rest ih => exact ih (State.busOk_memWrite h p.1 p.2)

/-- The CPU registers play no part in it. -/
theorem State.busOk_withCpuOf {s : State} (h : s.BusOk) (u : State) : (s.withCpuOf u).BusOk :=
  ⟨⟨h.1.mem, h.1.memBound, h.1.extram, h.1.extramBound⟩, h.2.rom, h.2.ram⟩

theorem State.busOk_push16 {s : State} (h : s.BusOk) (v : Word) : (s.push16 v).BusOk :=
  State.busOk_memWrite16 (s := { s with sp := s.sp - 2#16 })
    ⟨⟨h.1.mem, h.1.memBound, h.1.extram, h.1.extramBound⟩, h.2.rom, h.2.ram⟩ _ _

/-- Interrupt entry keeps the stores well formed and the bank indices in range. -/
theorem State.busOk_takeInterrupt {s : State} (h : s.BusOk) (k : InterruptSource) : (s.takeInterrupt k).BusOk := by
  have h1 := State.busOk_rawWrite h ifAddr (clearBit (s.rawRead ifAddr) (sourceBit k))
  have h2 : State.BusOk { s.rawWrite ifAddr (clearBit (s.rawRead ifAddr) (sourceBit k)) with halted := false, ime := false } :=
    ⟨⟨h1.1.mem, h1.1.memBound, h1.1.extram, h1.1.extramBound⟩, h1.2.rom, h1.2.ram⟩
  have h3 := State.busOk_push16 h2 s.pc
  exact ⟨⟨h3.1.mem, h3.1.memBound, h3.1.extram, h3.1.extramBound⟩, h3.2.rom, h3.2.ram⟩

end Sys2Proof.Machine
end

