-- ==== Sys2Proof/Laws/Reset.lean ====
section
/-! SUPPORT. The reset state is the machine that `powerOn` builds from the blank parameters. -/

namespace Sys2Proof.Machine

/-- The blank cartridge, no boot overlay and an `INIT` of zeros give `State.reset` (log entries 1 and 2). -/
theorem powerOn_blank : powerOn LoadParams.blank = .ok State.reset := rfl

end Sys2Proof.Machine
end

