-- ==== Sys2Proof/Laws/Video.lean ====
section
/-! SUPPORT. The Video Timing Engine: one equation for each case of `Advance`, which fields it may change, and that hooked
writes, interrupt entry and `Advance` keep the line, the readback and the clock as R45, R51 and R451 say. -/

namespace Sys2Proof.Machine

theorem State.advance_off (s : State) (c : Nat) (h : s.displayOn = false) : s.advance c = s.displayOffReset := by
  simp [State.advance, h]

theorem State.advance_stay (s : State) (c : Nat) (h : s.displayOn = true) (hc : s.clock + c < modeThreshold s.mode) :
    s.advance c = { s with clock := s.clock + c } := by
  simp [State.advance, h, hc]

theorem State.advance_end (s : State) (c : Nat) (h : s.displayOn = true) (hc : modeThreshold s.mode ≤ s.clock + c) :
    s.advance c = { s with clock := 0 }.endMode := by
  simp [State.advance, h, Nat.not_lt.mpr hc]

/-- The part of the state `Advance` may change. -/
structure VideoPart where
  mem : Memory
  line : Nat
  mode : PpuMode
  clock : Nat
  canvas : Canvas
  frames : List Canvas

/-- A state with that part replaced. -/
def State.withVideo (s : State) (p : VideoPart) : State :=
  { s with
    mem := p.mem
    line := p.line
    mode := p.mode
    clock := p.clock
    canvas := p.canvas
    frames := p.frames }

/-- That part of a state. -/
def State.videoPart (s : State) : VideoPart where
  mem := s.mem
  line := s.line
  mode := s.mode
  clock := s.clock
  canvas := s.canvas
  frames := s.frames

/-- `Advance` changes the backing array, the video state, the canvas and the frames, and nothing else. -/
theorem State.advance_shape (s : State) (c : Nat) : s.advance c = s.withVideo (s.advance c).videoPart := by
  unfold State.advance
  split
  · split
    · rfl
    · cases s.mode <;> simp only [State.endMode]
      · rfl
      · rfl
      · unfold State.endHblank
        split <;> rfl
      · unfold State.endVblankLine
        split <;> rfl
  · rfl

@[simp] theorem State.advance_a (s : State) (c : Nat) : (s.advance c).a = s.a := by rw [State.advance_shape]; rfl
@[simp] theorem State.advance_f (s : State) (c : Nat) : (s.advance c).f = s.f := by rw [State.advance_shape]; rfl
@[simp] theorem State.advance_b (s : State) (c : Nat) : (s.advance c).b = s.b := by rw [State.advance_shape]; rfl
@[simp] theorem State.advance_c (s : State) (c : Nat) : (s.advance c).c = s.c := by rw [State.advance_shape]; rfl
@[simp] theorem State.advance_d (s : State) (c : Nat) : (s.advance c).d = s.d := by rw [State.advance_shape]; rfl
@[simp] theorem State.advance_e (s : State) (c : Nat) : (s.advance c).e = s.e := by rw [State.advance_shape]; rfl
@[simp] theorem State.advance_h (s : State) (c : Nat) : (s.advance c).h = s.h := by rw [State.advance_shape]; rfl
@[simp] theorem State.advance_l (s : State) (c : Nat) : (s.advance c).l = s.l := by rw [State.advance_shape]; rfl
@[simp] theorem State.advance_pc (s : State) (c : Nat) : (s.advance c).pc = s.pc := by rw [State.advance_shape]; rfl
@[simp] theorem State.advance_sp (s : State) (c : Nat) : (s.advance c).sp = s.sp := by rw [State.advance_shape]; rfl
@[simp] theorem State.advance_ime (s : State) (c : Nat) : (s.advance c).ime = s.ime := by rw [State.advance_shape]; rfl
@[simp] theorem State.advance_halted (s : State) (c : Nat) : (s.advance c).halted = s.halted := by rw [State.advance_shape]; rfl
@[simp] theorem State.advance_stopped (s : State) (c : Nat) : (s.advance c).stopped = s.stopped := by rw [State.advance_shape]; rfl
@[simp] theorem State.advance_breakNext (s : State) (c : Nat) : (s.advance c).breakNext = s.breakNext := by rw [State.advance_shape]; rfl
@[simp] theorem State.advance_fault (s : State) (c : Nat) : (s.advance c).fault = s.fault := by rw [State.advance_shape]; rfl
@[simp] theorem State.advance_extram (s : State) (c : Nat) : (s.advance c).extram = s.extram := by rw [State.advance_shape]; rfl
@[simp] theorem State.advance_romBank (s : State) (c : Nat) : (s.advance c).romBank = s.romBank := by rw [State.advance_shape]; rfl
@[simp] theorem State.advance_ramBank (s : State) (c : Nat) : (s.advance c).ramBank = s.ramBank := by rw [State.advance_shape]; rfl
@[simp] theorem State.advance_ramEnabled (s : State) (c : Nat) : (s.advance c).ramEnabled = s.ramEnabled := by rw [State.advance_shape]; rfl
@[simp] theorem State.advance_overlayActive (s : State) (c : Nat) : (s.advance c).overlayActive = s.overlayActive := by rw [State.advance_shape]; rfl
@[simp] theorem State.advance_hooks (s : State) (c : Nat) : (s.advance c).hooks = s.hooks := by rw [State.advance_shape]; rfl
@[simp] theorem State.advance_cart (s : State) (c : Nat) : (s.advance c).cart = s.cart := by rw [State.advance_shape]; rfl
@[simp] theorem State.advance_header (s : State) (c : Nat) : (s.advance c).header = s.header := by rw [State.advance_shape]; rfl
@[simp] theorem State.advance_bootOverlay (s : State) (c : Nat) : (s.advance c).bootOverlay = s.bootOverlay := by rw [State.advance_shape]; rfl
@[simp] theorem State.advance_config (s : State) (c : Nat) : (s.advance c).config = s.config := by rw [State.advance_shape]; rfl
@[simp] theorem State.advance_tickResult (s : State) (c : Nat) : (s.advance c).tickResult = s.tickResult := by rw [State.advance_shape]; rfl

/-- An address above the echo region shares its cell with no other address. -/
theorem echoIndex_inj_of_high {a b : Word} (hb : 0xFE00 ≤ b.toNat) : echoIndex a = echoIndex b ↔ a = b := by
  refine ⟨fun h => ?_, fun h => by rw [h]⟩
  have ha := a.isLt
  unfold echoIndex at h
  apply BitVec.eq_of_toNat_eq
  split at h <;> split at h <;> omega

/-- The line is in range, LY reads it back, and the clock is below the mode's threshold. -/
structure State.VideoRunning (s : State) : Prop where
  line : s.line ≤ 153
  visible : s.mode ≠ .vblank → s.line ≤ 143
  readback : s.rawRead lyAddr = BitVec.ofNat 8 s.line
  clock : s.clock < modeThreshold s.mode

/-- A write elsewhere leaves LY alone. -/
theorem State.rawRead_ly_busStore (s : State) {a : Word} (ha : a ≠ lyAddr) (v : Byte) :
    (s.busStore a v).rawRead lyAddr = s.rawRead lyAddr := by
  unfold State.busStore
  split
  · unfold State.bankControl
    repeat' split
    all_goals rfl
  · split
    · unfold State.extRamWrite
      split <;> rfl
    · rw [State.rawRead_rawWrite, if_neg]
      rw [eq_comm, echoIndex_inj_of_high (by decide)]
      exact ha

theorem State.busStore_video (s : State) (a : Word) (v : Byte) :
    (s.busStore a v).line = s.line ∧ (s.busStore a v).mode = s.mode ∧ (s.busStore a v).clock = s.clock := by
  unfold State.busStore State.bankControl State.extRamWrite
  repeat' split
  all_goals exact ⟨rfl, rfl, rfl⟩

/-- A hooked write keeps the line and its readback in step: elsewhere nothing moves, on LY both become 0 (R345). -/
theorem State.videoRunning_memWrite {s : State} (hk : s.hooks = HookRegistry.atReset) (h : s.VideoRunning) (a : Word)
    (v : Byte) : (s.memWrite a v).VideoRunning := by
  obtain ⟨hl, hm, hc⟩ := s.busStore_video a v
  rw [State.memWrite_of_hooks s a v hk]
  split
  · refine ⟨Nat.zero_le _, fun _ => Nat.zero_le _, ?_, ?_⟩
    · show ({ s.busStore a v with line := 0 }.rawWrite lyAddr 0x00#8).rawRead lyAddr = BitVec.ofNat 8 0
      rw [State.rawRead_rawWrite, if_pos rfl]
    · show (s.busStore a v).clock < modeThreshold (s.busStore a v).mode
      rw [hc, hm]; exact h.clock
  · rename_i ha
    refine ⟨by rw [hl]; exact h.line, by rw [hm, hl]; exact h.visible, ?_, by rw [hc, hm]; exact h.clock⟩
    rw [State.rawRead_ly_busStore s ha, hl]; exact h.readback

theorem State.videoRunning_writeAll {s : State} (hk : s.hooks = HookRegistry.atReset) (h : s.VideoRunning)
    (ws : List (Word × Byte)) : (s.writeAll ws).VideoRunning ∧ (s.writeAll ws).hooks = HookRegistry.atReset := by
  induction ws generalizing s with
  | nil => exact ⟨h, hk⟩
  | cons p rest ih =>
    exact ih (by rw [State.memWrite_hooks]; exact hk) (State.videoRunning_memWrite hk h p.1 p.2)

/-- A raw write elsewhere keeps it too. -/
theorem State.videoRunning_rawWrite {s : State} (h : s.VideoRunning) {a : Word} (ha : a ≠ lyAddr) (v : Byte) :
    (s.rawWrite a v).VideoRunning := by
  refine ⟨h.line, h.visible, ?_, h.clock⟩
  rw [State.rawRead_rawWrite, if_neg]
  · exact h.readback
  · rw [eq_comm, echoIndex_inj_of_high (by decide)]
    exact ha

/-- Interrupt entry as its writes: the acknowledge, then the two hooked stores of the push (R390). -/
theorem State.takeInterrupt_eq (s : State) (k : InterruptSource) :
    s.takeInterrupt k =
      { (({ s.rawWrite ifAddr (clearBit (s.rawRead ifAddr) (sourceBit k)) with
            halted := false, ime := false, sp := s.sp - 2#16 }.memWrite (s.sp - 2#16) (loByte s.pc)).memWrite
          (s.sp - 2#16 + 1) (hiByte s.pc)) with
        pc := sourceVector k } := rfl

theorem State.videoRunning_takeInterrupt {s : State} (hk : s.hooks = HookRegistry.atReset) (h : s.VideoRunning)
    (k : InterruptSource) : (s.takeInterrupt k).VideoRunning := by
  rw [State.takeInterrupt_eq]
  have h1 := State.videoRunning_rawWrite h (a := ifAddr) (by decide) (clearBit (s.rawRead ifAddr) (sourceBit k))
  generalize hu : ({ s.rawWrite ifAddr (clearBit (s.rawRead ifAddr) (sourceBit k)) with
    halted := false, ime := false, sp := s.sp - 2#16 } : State) = u
  have h2 : u.VideoRunning := by subst hu; exact ⟨h1.line, h1.visible, h1.readback, h1.clock⟩
  have hk2 : u.hooks = HookRegistry.atReset := by subst hu; exact hk
  have h3 := State.videoRunning_memWrite hk2 h2 (s.sp - 2#16) (loByte s.pc)
  have h4 := State.videoRunning_memWrite (by rw [State.memWrite_hooks]; exact hk2) h3 (s.sp - 2#16 + 1) (hiByte s.pc)
  generalize (u.memWrite (s.sp - 2#16) (loByte s.pc)).memWrite (s.sp - 2#16 + 1) (hiByte s.pc) = w at h4 ⊢
  exact ⟨h4.line, h4.visible, h4.readback, h4.clock⟩

theorem State.readback_moveToLine (s : State) (n : Nat) :
    (s.moveToLine n).rawRead lyAddr = BitVec.ofNat 8 (s.moveToLine n).line := by
  unfold State.moveToLine
  rw [State.rawRead_rawWrite, if_pos rfl]
  rfl

/-- A raw write of LY does not switch the display. -/
theorem State.displayOn_moveToLine (s : State) (n : Nat) : (s.moveToLine n).displayOn = s.displayOn := by
  unfold State.displayOn State.moveToLine
  rw [State.rawRead_rawWrite, if_neg (by decide)]
  rfl

theorem State.displayOn_postInterrupt (s : State) (k : InterruptSource) :
    (s.postInterrupt k).displayOn = s.displayOn := by
  unfold State.displayOn State.postInterrupt
  rw [State.rawRead_rawWrite, if_neg (by decide)]

/-- The end of a mode leaves the engine in a legal state with the display as it was. -/
theorem State.videoRunning_endMode {s : State} (h : s.VideoRunning) (hc : s.clock = 0) :
    s.endMode.VideoRunning ∧ s.endMode.displayOn = s.displayOn := by
  have hl := h.line
  cases hm : s.mode <;> simp only [State.endMode, hm]
  · exact ⟨⟨hl, fun _ => h.visible (by simp [hm]), h.readback, by simp [hc, modeThreshold]⟩, rfl⟩
  · exact ⟨⟨hl, fun _ => h.visible (by simp [hm]), h.readback, by simp [State.endXfer, State.renderLine, hc, modeThreshold]⟩, rfl⟩
  · have hv : s.line ≤ 143 := h.visible (by simp [hm])
    unfold State.endHblank
    split
    · rename_i h144
      refine ⟨State.videoRunning_rawWrite (a := ifAddr) ⟨?_, ?_, ?_, ?_⟩ (by decide) _, ?_⟩
      · show s.line + 1 ≤ 153; omega
      · exact fun hne => absurd rfl hne
      · exact s.readback_moveToLine (s.line + 1)
      · show s.clock < modeThreshold .vblank; rw [hc]; decide
      · rw [State.displayOn_postInterrupt]; exact s.displayOn_moveToLine _
    · rename_i h144
      refine ⟨⟨?_, ?_, s.readback_moveToLine (s.line + 1), ?_⟩, s.displayOn_moveToLine _⟩
      · show s.line + 1 ≤ 153; omega
      · intro _; show s.line + 1 ≤ 143; omega
      · show s.clock < modeThreshold .oam; rw [hc]; decide
  · unfold State.endVblankLine
    split
    · refine ⟨⟨Nat.zero_le _, fun _ => Nat.zero_le _, State.readback_moveToLine _ 0, ?_⟩, State.displayOn_moveToLine _ 0⟩
      show s.clock < modeThreshold .oam; rw [hc]; decide
    · rename_i h153
      refine ⟨⟨?_, fun hne => absurd hm hne, s.readback_moveToLine (s.line + 1), ?_⟩, s.displayOn_moveToLine _⟩
      · show s.line + 1 ≤ 153; omega
      · show s.clock < modeThreshold s.mode; rw [hc, hm]; decide

/-- Every `Advance` leaves the engine's state as R51 and R451 say, the restart state of R331 included. -/
theorem State.videoOk_advance {s : State} (h : s.VideoRunning) (c : Nat) : (s.advance c).VideoOk := by
  cases hd : s.displayOn
  · rw [State.advance_off s c hd]
    have hl := State.readback_moveToLine { s with mode := .oam, clock := 0 } 0
    exact ⟨Nat.zero_le _, fun _ => Nat.zero_le _, hl, by show (0 : Nat) < 80; decide, fun _ => ⟨rfl, rfl, rfl⟩⟩
  · by_cases hc : s.clock + c < modeThreshold s.mode
    · rw [State.advance_stay s c hd hc]
      have hon : State.displayOn { s with clock := s.clock + c } = true := hd
      exact ⟨h.line, h.visible, h.readback, hc, fun hoff => by rw [hon] at hoff; exact absurd hoff (by decide)⟩
    · rw [State.advance_end s c hd (Nat.not_lt.mp hc)]
      have hpos : 0 < modeThreshold s.mode := by cases s.mode <;> decide
      obtain ⟨hv, hon⟩ := State.videoRunning_endMode (s := { s with clock := 0 }) ⟨h.line, h.visible, h.readback, hpos⟩ rfl
      have hon' : State.displayOn { s with clock := 0 } = true := hd
      exact ⟨hv.line, hv.visible, hv.readback, hv.clock, fun hoff => by rw [hon, hon'] at hoff; exact absurd hoff (by decide)⟩

theorem State.videoRunning_of_ok {s : State} (h : s.VideoOk) : s.VideoRunning :=
  ⟨h.line, h.visible, h.readback, h.clock⟩

/-- The stores and the banking state are all that `BusOk` looks at. -/
theorem State.busOk_of_eq {s t : State} (h : s.BusOk) (hm : t.mem = s.mem) (he : t.extram = s.extram)
    (hh : t.header = s.header) (hr : t.romBank = s.romBank) (hb : t.ramBank = s.ramBank) : t.BusOk :=
  ⟨⟨by rw [hm]; exact h.1.mem, by rw [hm]; exact h.1.memBound, by rw [he]; exact h.1.extram,
    by rw [he, hh]; exact h.1.extramBound⟩, by rw [hr, hh]; exact h.2.rom, by rw [hb, hh]; exact h.2.ram⟩

theorem State.busOk_moveToLine {s : State} (h : s.BusOk) (n : Nat) : (s.moveToLine n).BusOk :=
  State.busOk_of_eq (State.busOk_rawWrite h lyAddr (BitVec.ofNat 8 n)) rfl rfl rfl rfl rfl

theorem State.busOk_endMode {s : State} (h : s.BusOk) : s.endMode.BusOk := by
  cases hm : s.mode <;> simp only [State.endMode, hm]
  · exact State.busOk_of_eq h rfl rfl rfl rfl rfl
  · exact State.busOk_of_eq h rfl rfl rfl rfl rfl
  · have hl := State.busOk_moveToLine h (s.line + 1)
    unfold State.endHblank
    split
    · refine State.busOk_rawWrite ?_ _ _
      exact State.busOk_of_eq hl rfl rfl rfl rfl rfl
    · exact State.busOk_of_eq hl rfl rfl rfl rfl rfl
  · unfold State.endVblankLine
    split
    · refine State.busOk_moveToLine ?_ 0
      exact State.busOk_of_eq h rfl rfl rfl rfl rfl
    · exact State.busOk_moveToLine h _

/-- `Advance` keeps the stores well formed and the bank indices in range. -/
theorem State.busOk_advance {s : State} (h : s.BusOk) (c : Nat) : (s.advance c).BusOk := by
  unfold State.advance
  split
  · split
    · exact State.busOk_of_eq h rfl rfl rfl rfl rfl
    · exact State.busOk_endMode (State.busOk_of_eq h rfl rfl rfl rfl rfl)
  · refine State.busOk_moveToLine ?_ 0
    exact State.busOk_of_eq h rfl rfl rfl rfl rfl

end Sys2Proof.Machine
end

