-- ==== Sys2Proof/Laws/Step.lean ====
section
/-! SUPPORT. What a tick can do, said once: it faults on a latched fault, it turns over without an instruction while the CPU
waits, and otherwise it is the fetched instruction followed by the rest of the tick. -/

namespace Sys2Proof.Machine

theorem step_of_fault {s : State} {record : IllegalInstruction} (h : s.fault = some record) :
    step s = .fault (.illegalInstruction record) := by
  simp [step, State.tickStart, h]

theorem step_of_waiting {s : State} (h : s.Waiting) : step s = .next (s.finishTick 0) := by
  obtain ⟨hf, hw⟩ := h
  have hw' : (s.halted || s.stopped) = true := by simpa using hw
  simp [step, State.tickStart, hf, hw']

theorem step_of_running {s : State} (hf : s.fault = none) (hh : s.halted = false) (hp : s.stopped = false) :
    step s = finishRun s.dropOverlay.fetchedCost (exec s.dropOverlay.fetched s.dropOverlay) := by
  simp [step, State.tickStart, hf, hh, hp]

/-- Every next state of a tick, by how it came about. -/
theorem step_cases {s t : State} (h : step s = .next t) :
    (s.Waiting ∧ t = s.finishTick 0) ∨
      (s.fault = none ∧ s.halted = false ∧ s.stopped = false ∧
        ∃ u, InstrEffect s.dropOverlay.fetched s.dropOverlay u ∧ exec s.dropOverlay.fetched s.dropOverlay = .next u ∧
          t = u.finishTick s.dropOverlay.fetchedCost) := by
  cases hf : s.fault with
  | some record => rw [step_of_fault hf] at h; cases h
  | none =>
    by_cases hw : s.halted = true ∨ s.stopped = true
    · rw [step_of_waiting ⟨hf, hw⟩] at h
      injection h with h
      exact .inl ⟨⟨hf, hw⟩, h.symm⟩
    · have hh : s.halted = false := by simpa using fun x => hw (.inl x)
      have hp : s.stopped = false := by simpa using fun x => hw (.inr x)
      obtain ⟨u, hu, he⟩ := exec_effect s.dropOverlay.fetched s.dropOverlay
      rw [step_of_running hf hh hp, hu] at h
      injection h with h
      exact .inr ⟨rfl, hh, hp, u, he, hu, h.symm⟩

/-- The overlay bit is all that overlay removal touches. -/
theorem State.dropOverlay_eq (s : State) :
    s.dropOverlay = { s with overlayActive := s.overlayActive && decide (s.pc ≠ 0x0100#16) } := by
  obtain ⟨a, f, b, c, d, e, h, l, pc, sp, ime, halted, stopped, breakNext, fault, mem, extram, romBank, ramBank, ramEnabled, ov⟩ := s
  cases ov
  · rfl
  · by_cases hp : pc = 0x0100#16 <;> simp [State.dropOverlay, hp]

theorem State.executeInterrupts_none {s : State} (h : s.serviceable = none) : s.executeInterrupts = (s, 0) := by
  simp [State.executeInterrupts, h]

theorem State.executeInterrupts_some {s : State} {k : InterruptSource} (h : s.serviceable = some k) :
    s.executeInterrupts = (s.takeInterrupt k, 5) := by
  simp [State.executeInterrupts, h]

/-- After a fault nothing else of the tick runs (R381, R400). -/
theorem State.finishTick_fault {s : State} {record : IllegalInstruction} (h : s.fault = some record) (cost : Nat) :
    s.finishTick cost = { s with tickResult := .faulted } := by
  simp [State.finishTick, h]

/-- The rest of a tick: the engine, interrupt dispatch, the engine again (R400). -/
theorem State.finishTick_running {s : State} (h : s.fault = none) (cost : Nat) :
    s.finishTick cost =
      { (({ s with breakNext := false }.advance cost).executeInterrupts.1.advance
          ({ s with breakNext := false }.advance cost).executeInterrupts.2) with
        tickResult := if s.breakNext then .stopRequested else .running } := by
  simp [State.finishTick, h]

/-- No enabled source is pending exactly when none is serviced. -/
theorem firstSource_eq_none {m : Byte} : firstSource (m &&& 0x1F#8) = none ↔ m &&& 0x1F#8 = 0#8 := by
  revert m; decide

/-- After interrupt dispatch the CPU is stopped, or masked, or has nothing pending (R451 (a)). -/
theorem State.interrupts_settled (s : State) :
    s.executeInterrupts.1.stopped = true ∨ s.executeInterrupts.1.ime = false ∨
      s.executeInterrupts.1.pendingSources = 0#8 := by
  cases h : s.serviceable with
  | some k =>
    rw [State.executeInterrupts_some h]
    refine .inr (.inl ?_)
    rw [State.takeInterrupt_eq]
    simp
  | none =>
    rw [State.executeInterrupts_none h]
    unfold State.serviceable at h
    by_cases hb : (s.stopped || !s.ime) = true
    · rcases Bool.or_eq_true_iff.mp hb with hs | hi
      · exact .inl hs
      · exact .inr (.inl (by simpa using hi))
    · rw [if_neg hb] at h
      exact .inr (.inr (firstSource_eq_none.mp h))

end Sys2Proof.Machine
end

