-- ==== Sys2Proof/Tests/Slice0.lean ====
section
/-! SUPPORT. Tests. The expected results are those of 95_test_vectors.md (each docstring names its vector) and of
spec/opcode_table.json; the witnesses at the end meet the hypotheses of the obligations. -/

namespace Sys2Proof

/-- The entry byte of the extended table is not an instruction (R315). -/
theorem test_well_formed_refuses_entry_byte : ¬Instr.prefixCb.WellFormed := by decide

/-- A complete instruction is one. -/
theorem test_well_formed_accepts : (Instr.jpNn 0xFFFF#16).WellFormed ∧ Instr.illegalD3.WellFormed := by decide

/-- The first instruction of each byte list. -/
def decodedAll (words : List (List Byte)) : List Instr := words.filterMap fun w => (decode w).toOption.map (·.1)

/-- Words written field by field from R126 to R129: 01 h e, 10 add (HL), 00 (HL) inc, 00 de 1001, 11 af 0001, 00 1 c 000,
1101 1001, 11 2 111, 00 010 111, CB 00 srl (HL), CB 10 7 b, 1111 1011, 1110 1101. -/
theorem test_decode_fields :
    decodedAll [[0b01100011#8], [0b10000110#8], [0b00110100#8], [0b00011001#8], [0b11110001#8],
        [0b00111000#8, 0x80#8], [0b11011001#8], [0b11010111#8], [0b00010111#8], [0b11001011#8, 0b00111110#8],
        [0b11001011#8, 0b10111000#8], [0b11111011#8], [0b11101101#8]] =
      [.ldHE, .addAAtHl, .incAtHl, .addHlDe, .popAf, .jrCDisp 0x80#8, .reti, .rst10, .rla, .srlAtHl, .res7B, .ei,
        .illegalED] := by
  decide

/-- What the opcode bytes with the high nibble `hi` decode to, the bytes 0x34 0x12 after them. -/
def decodedPrimary (hi : Nat) : List Instr :=
  decodedAll ((List.range 16).map fun lo => [BitVec.ofNat 8 (16 * hi + lo), 0x34#8, 0x12#8])

/-- What the bytes with the high nibble `hi` decode to after 0xCB. -/
def decodedExtended (hi : Nat) : List Instr :=
  decodedAll ((List.range 16).map fun lo => [0xCB#8, BitVec.ofNat 8 (16 * hi + lo)])

/-! Every row of the opcode table, a row of sixteen a theorem. -/

theorem test_decode_primary_0 : decodedPrimary 0x0 = [
    .nop, .ldBcNn 0x1234#16, .ldAtBcA, .incBc, .incB, .decB, .ldBN 0x34#8, .rlca, .ldAtNnSp 0x1234#16, .addHlBc, .ldAAtBc,
    .decBc, .incC, .decC, .ldCN 0x34#8, .rrca] := by
  decide

theorem test_decode_primary_1 : decodedPrimary 0x1 = [
    .stop, .ldDeNn 0x1234#16, .ldAtDeA, .incDe, .incD, .decD, .ldDN 0x34#8, .rla, .jrDisp 0x34#8, .addHlDe, .ldAAtDe,
    .decDe, .incE, .decE, .ldEN 0x34#8, .rra] := by
  decide

theorem test_decode_primary_2 : decodedPrimary 0x2 = [
    .jrNzDisp 0x34#8, .ldHlNn 0x1234#16, .ldAtHlIncA, .incHl, .incH, .decH, .ldHN 0x34#8, .daa, .jrZDisp 0x34#8, .addHlHl,
    .ldAAtHlInc, .decHl, .incL, .decL, .ldLN 0x34#8, .cpl] := by
  decide

theorem test_decode_primary_3 : decodedPrimary 0x3 = [
    .jrNcDisp 0x34#8, .ldSpNn 0x1234#16, .ldAtHlDecA, .incSp, .incAtHl, .decAtHl, .ldAtHlN 0x34#8, .scf, .jrCDisp 0x34#8,
    .addHlSp, .ldAAtHlDec, .decSp, .incA, .decA, .ldAN 0x34#8, .ccf] := by
  decide

theorem test_decode_primary_4 : decodedPrimary 0x4 = [
    .ldBB, .ldBC, .ldBD, .ldBE, .ldBH, .ldBL, .ldBAtHl, .ldBA, .ldCB, .ldCC, .ldCD, .ldCE, .ldCH, .ldCL, .ldCAtHl, .ldCA] := by
  decide

theorem test_decode_primary_5 : decodedPrimary 0x5 = [
    .ldDB, .ldDC, .ldDD, .ldDE, .ldDH, .ldDL, .ldDAtHl, .ldDA, .ldEB, .ldEC, .ldED, .ldEE, .ldEH, .ldEL, .ldEAtHl, .ldEA] := by
  decide

theorem test_decode_primary_6 : decodedPrimary 0x6 = [
    .ldHB, .ldHC, .ldHD, .ldHE, .ldHH, .ldHL, .ldHAtHl, .ldHA, .ldLB, .ldLC, .ldLD, .ldLE, .ldLH, .ldLL, .ldLAtHl, .ldLA] := by
  decide

theorem test_decode_primary_7 : decodedPrimary 0x7 = [
    .ldAtHlB, .ldAtHlC, .ldAtHlD, .ldAtHlE, .ldAtHlH, .ldAtHlL, .halt, .ldAtHlA, .ldAB, .ldAC, .ldAD, .ldAE, .ldAH, .ldAL,
    .ldAAtHl, .ldAA] := by
  decide

theorem test_decode_primary_8 : decodedPrimary 0x8 = [
    .addAB, .addAC, .addAD, .addAE, .addAH, .addAL, .addAAtHl, .addAA, .adcAB, .adcAC, .adcAD, .adcAE, .adcAH, .adcAL,
    .adcAAtHl, .adcAA] := by
  decide

theorem test_decode_primary_9 : decodedPrimary 0x9 = [
    .subB, .subC, .subD, .subE, .subH, .subL, .subAtHl, .subA, .sbcAB, .sbcAC, .sbcAD, .sbcAE, .sbcAH, .sbcAL, .sbcAAtHl,
    .sbcAA] := by
  decide

theorem test_decode_primary_A : decodedPrimary 0xA = [
    .andB, .andC, .andD, .andE, .andH, .andL, .andAtHl, .andA, .xorB, .xorC, .xorD, .xorE, .xorH, .xorL, .xorAtHl, .xorA] := by
  decide

theorem test_decode_primary_B : decodedPrimary 0xB = [
    .orB, .orC, .orD, .orE, .orH, .orL, .orAtHl, .orA, .cpB, .cpC, .cpD, .cpE, .cpH, .cpL, .cpAtHl, .cpA] := by
  decide

theorem test_decode_primary_C : decodedPrimary 0xC = [
    .retNz, .popBc, .jpNzNn 0x1234#16, .jpNn 0x1234#16, .callNzNn 0x1234#16, .pushBc, .addAN 0x34#8, .rst00, .retZ, .ret,
    .jpZNn 0x1234#16, .swapH, .callZNn 0x1234#16, .callNn 0x1234#16, .adcAN 0x34#8, .rst08] := by
  decide

theorem test_decode_primary_D : decodedPrimary 0xD = [
    .retNc, .popDe, .jpNcNn 0x1234#16, .illegalD3, .callNcNn 0x1234#16, .pushDe, .subN 0x34#8, .rst10, .retC, .reti,
    .jpCNn 0x1234#16, .illegalDB, .callCNn 0x1234#16, .illegalDD, .sbcAN 0x34#8, .rst18] := by
  decide

theorem test_decode_primary_E : decodedPrimary 0xE = [
    .ldhAtNA 0x34#8, .popHl, .ldAtCA, .illegalE3, .illegalE4, .pushHl, .andN 0x34#8, .rst20, .addSpDisp 0x34#8, .jpAtHl,
    .ldAtNnA 0x1234#16, .illegalEB, .illegalEC, .illegalED, .xorN 0x34#8, .rst28] := by
  decide

theorem test_decode_primary_F : decodedPrimary 0xF = [
    .ldhAAtN 0x34#8, .popAf, .ldAAtC, .di, .illegalF4, .pushAf, .orN 0x34#8, .rst30, .ldHlSpDisp 0x34#8, .ldSpHl,
    .ldAAtNn 0x1234#16, .ei, .illegalFC, .illegalFD, .cpN 0x34#8, .rst38] := by
  decide

theorem test_decode_extended_0 : decodedExtended 0x0 = [
    .rlcB, .rlcC, .rlcD, .rlcE, .rlcH, .rlcL, .rlcAtHl, .rlcA, .rrcB, .rrcC, .rrcD, .rrcE, .rrcH, .rrcL, .rrcAtHl, .rrcA] := by
  decide

theorem test_decode_extended_1 : decodedExtended 0x1 = [
    .rlB, .rlC, .rlD, .rlE, .rlH, .rlL, .rlAtHl, .rlA, .rrB, .rrC, .rrD, .rrE, .rrH, .rrL, .rrAtHl, .rrA] := by
  decide

theorem test_decode_extended_2 : decodedExtended 0x2 = [
    .slaB, .slaC, .slaD, .slaE, .slaH, .slaL, .slaAtHl, .slaA, .sraB, .sraC, .sraD, .sraE, .sraH, .sraL, .sraAtHl, .sraA] := by
  decide

theorem test_decode_extended_3 : decodedExtended 0x3 = [
    .swapB, .swapC, .swapD, .swapE, .swapH, .swapL, .swapAtHl, .swapA, .srlB, .srlC, .srlD, .srlE, .srlH, .srlL, .srlAtHl,
    .srlA] := by
  decide

theorem test_decode_extended_4 : decodedExtended 0x4 = [
    .bit0B, .bit0C, .bit0D, .bit0E, .bit0H, .bit0L, .bit0AtHl, .bit0A, .bit1B, .bit1C, .bit1D, .bit1E, .bit1H, .bit1L,
    .bit1AtHl, .bit1A] := by
  decide

theorem test_decode_extended_5 : decodedExtended 0x5 = [
    .bit2B, .bit2C, .bit2D, .bit2E, .bit2H, .bit2L, .bit2AtHl, .bit2A, .bit3B, .bit3C, .bit3D, .bit3E, .bit3H, .bit3L,
    .bit3AtHl, .bit3A] := by
  decide

theorem test_decode_extended_6 : decodedExtended 0x6 = [
    .bit4B, .bit4C, .bit4D, .bit4E, .bit4H, .bit4L, .bit4AtHl, .bit4A, .bit5B, .bit5C, .bit5D, .bit5E, .bit5H, .bit5L,
    .bit5AtHl, .bit5A] := by
  decide

theorem test_decode_extended_7 : decodedExtended 0x7 = [
    .bit6B, .bit6C, .bit6D, .bit6E, .bit6H, .bit6L, .bit6AtHl, .bit6A, .bit7B, .bit7C, .bit7D, .bit7E, .bit7H, .bit7L,
    .bit7AtHl, .bit7A] := by
  decide

theorem test_decode_extended_8 : decodedExtended 0x8 = [
    .res0B, .res0C, .res0D, .res0E, .res0H, .res0L, .res0AtHl, .res0A, .res1B, .res1C, .res1D, .res1E, .res1H, .res1L,
    .res1AtHl, .res1A] := by
  decide

theorem test_decode_extended_9 : decodedExtended 0x9 = [
    .res2B, .res2C, .res2D, .res2E, .res2H, .res2L, .res2AtHl, .res2A, .res3B, .res3C, .res3D, .res3E, .res3H, .res3L,
    .res3AtHl, .res3A] := by
  decide

theorem test_decode_extended_A : decodedExtended 0xA = [
    .res4B, .res4C, .res4D, .res4E, .res4H, .res4L, .res4AtHl, .res4A, .res5B, .res5C, .res5D, .res5E, .res5H, .res5L,
    .res5AtHl, .res5A] := by
  decide

theorem test_decode_extended_B : decodedExtended 0xB = [
    .res6B, .res6C, .res6D, .res6E, .res6H, .res6L, .res6AtHl, .res6A, .res7B, .res7C, .res7D, .res7E, .res7H, .res7L,
    .res7AtHl, .res7A] := by
  decide

theorem test_decode_extended_C : decodedExtended 0xC = [
    .set0B, .set0C, .set0D, .set0E, .set0H, .set0L, .set0AtHl, .set0A, .set1B, .set1C, .set1D, .set1E, .set1H, .set1L,
    .set1AtHl, .set1A] := by
  decide

theorem test_decode_extended_D : decodedExtended 0xD = [
    .set2B, .set2C, .set2D, .set2E, .set2H, .set2L, .set2AtHl, .set2A, .set3B, .set3C, .set3D, .set3E, .set3H, .set3L,
    .set3AtHl, .set3A] := by
  decide

theorem test_decode_extended_E : decodedExtended 0xE = [
    .set4B, .set4C, .set4D, .set4E, .set4H, .set4L, .set4AtHl, .set4A, .set5B, .set5C, .set5D, .set5E, .set5H, .set5L,
    .set5AtHl, .set5A] := by
  decide

theorem test_decode_extended_F : decodedExtended 0xF = [
    .set6B, .set6C, .set6D, .set6E, .set6H, .set6L, .set6AtHl, .set6A, .set7B, .set7C, .set7D, .set7E, .set7H, .set7L,
    .set7AtHl, .set7A] := by
  decide

end Sys2Proof

namespace Sys2Proof.Machine

/-! One instruction: parts 2.1 to 2.8 of the vectors. -/

/-- The reset state, ready to run the bytes at 0x0150. -/
def at0150 (bytes : List Byte) : State :=
  ({ State.reset with pc := 0x0150#16, sp := 0xFFFE#16 }).placeFetchBytes 0x0150#16 bytes

/-- The state after the instruction at PC alone. -/
def ran (s : State) : State :=
  match exec s.fetched s with
  | .next t => t
  | _ => s

/-- The instruction at PC costs `cost` cycles, and the state after it is as `p` says. -/
def passes (s : State) (cost : Nat) (p : State → Bool) : Bool := s.fetchedCost == cost && p (ran s)

/-- V-L1. -/
theorem test_ld_b_c :
    (passes { at0150 [0x41#8] with c := 0x5A#8, f := .ofByte 0xF0#8 } 4 fun t =>
      t.b == 0x5A#8 && t.f.toByte == 0xF0#8 && t.pc == 0x0151#16) = true := by
  decide

/-- V-L3. -/
theorem test_ld_e_n :
    (passes (at0150 [0x1E#8, 0x99#8]) 8 fun t =>
      t.e == 0x99#8 && t.pc == 0x0152#16) = true := by
  decide

/-- V-L4. -/
theorem test_ld_h_at_hl_reads_first :
    (passes { at0150 [0x66#8] with h := 0xC0#8, l := 0x10#8, mem := [(0xC010, 0x77#8)] } 8 fun t =>
      t.h == 0x77#8 && t.l == 0x10#8) = true := by
  decide

/-- V-L5. -/
theorem test_ld_at_hl_b :
    (passes { at0150 [0x70#8] with h := 0xC0#8, l := 0x00#8, b := 0xAB#8 } 8 fun t =>
      t.mem.get 0xC000 == 0xAB#8) = true := by
  decide

/-- V-L6. -/
theorem test_store_to_rom_is_lost :
    (passes { at0150 [0x70#8] with h := 0x30#8, l := 0x00#8, b := 0xAB#8 } 8 fun t =>
      t.memRead 0x3000#16 == 0x00#8 && t.romBank == 1) = true := by
  decide

/-- V-L7. -/
theorem test_ld_at_hl_n :
    (passes { at0150 [0x36#8, 0x5C#8] with h := 0xD1#8, l := 0x23#8 } 12 fun t =>
      t.mem.get 0xD123 == 0x5C#8 && t.pc == 0x0152#16) = true := by
  decide

/-- V-L8. -/
theorem test_ld_a_at_bc :
    (passes { at0150 [0x0A#8] with b := 0xC0#8, c := 0x01#8, mem := [(0xC001, 0x42#8)] } 8 fun t =>
      t.a == 0x42#8) = true := by
  decide

/-- V-L9. -/
theorem test_ld_a_at_de_reads_rom :
    (passes { at0150 [0x1A#8] with d := 0x01#8, e := 0x50#8 } 8 fun t =>
      t.a == 0x1A#8) = true := by
  decide

/-- V-L10. -/
theorem test_ld_at_bc_a :
    (passes { at0150 [0x02#8] with b := 0x80#8, c := 0x00#8, a := 0x3C#8 } 8 fun t =>
      t.mem.get 0x8000 == 0x3C#8) = true := by
  decide

/-- V-L11. -/
theorem test_ld_at_de_a :
    (passes { at0150 [0x12#8] with d := 0xFE#8, e := 0x00#8, a := 0x11#8 } 8 fun t =>
      t.mem.get 0xFE00 == 0x11#8) = true := by
  decide

/-- V-L12. -/
theorem test_ld_a_at_nn_low_byte_first :
    (passes { at0150 [0xFA#8, 0x34#8, 0xC2#8] with mem := [(0xC234, 0x9E#8)] } 16 fun t =>
      t.a == 0x9E#8 && t.pc == 0x0153#16) = true := by
  decide

/-- V-L13. -/
theorem test_ld_at_nn_a_echo :
    (passes { at0150 [0xEA#8, 0x23#8, 0xE1#8] with a := 0x66#8 } 16 fun t =>
      t.mem.get 0xC123 == 0x66#8 && t.memRead 0xE123#16 == 0x66#8) = true := by
  decide

/-- V-L14. -/
theorem test_ldh_a_at_n_reads_ly :
    (passes { at0150 [0xF0#8, 0x44#8] with mem := [(0xFF44, 0x5B#8)], line := 91 } 12 fun t =>
      t.a == 0x5B#8) = true := by
  decide

/-- V-L16. -/
theorem test_ldh_at_n_a_ly_hook :
    (passes { at0150 [0xE0#8, 0x44#8] with
        a := 0x7E#8, mem := [(0xFF44, 0x5B#8)], line := 91, mode := .hblank, clock := 100 } 12 fun t =>
      t.mem.get 0xFF44 == 0x00#8 && t.line == 0 && t.mode == .hblank && t.clock == 100) = true := by
  decide

/-- V-L17. -/
theorem test_ld_a_at_c :
    (passes { at0150 [0xF2#8] with c := 0x0F#8, mem := [(0xFF0F, 0x05#8)] } 8 fun t =>
      t.a == 0x05#8) = true := by
  decide

/-- V-L18. -/
theorem test_ld_at_c_a :
    (passes { at0150 [0xE2#8] with c := 0xFF#8, a := 0x1F#8 } 8 fun t =>
      t.mem.get 0xFFFF == 0x1F#8) = true := by
  decide

/-- V-L19. -/
theorem test_ld_at_hl_inc_a_wraps :
    (passes { at0150 [0x22#8] with h := 0xFF#8, l := 0xFF#8, a := 0x01#8 } 8 fun t =>
      t.mem.get 0xFFFF == 0x01#8 && t.h == 0x00#8 && t.l == 0x00#8) = true := by
  decide

/-- V-L20. -/
theorem test_ld_a_at_hl_inc :
    (passes { at0150 [0x2A#8] with h := 0xC0#8, l := 0xFF#8, mem := [(0xC0FF, 0x10#8)] } 8 fun t =>
      t.a == 0x10#8 && t.h == 0xC1#8 && t.l == 0x00#8) = true := by
  decide

/-- V-L21. -/
theorem test_ld_at_hl_dec_a :
    (passes { at0150 [0x32#8] with h := 0xC0#8, l := 0x00#8, a := 0x22#8 } 8 fun t =>
      t.mem.get 0xC000 == 0x22#8 && t.h == 0xBF#8 && t.l == 0xFF#8) = true := by
  decide

/-- V-L22. -/
theorem test_ld_a_at_hl_dec_wraps :
    (passes { at0150 [0x3A#8] with h := 0x00#8, l := 0x00#8 } 8 fun t =>
      t.a == 0x00#8 && t.h == 0xFF#8 && t.l == 0xFF#8) = true := by
  decide

/-- V-L24. -/
theorem test_ld_a_absent_ext_ram :
    (passes (at0150 [0xFA#8, 0x00#8, 0xA0#8]) 16 fun t =>
      t.a == 0xFF#8) = true := by
  decide

/-- V-W1. -/
theorem test_ld_hl_nn :
    (passes (at0150 [0x21#8, 0x34#8, 0x12#8]) 12 fun t =>
      t.h == 0x12#8 && t.l == 0x34#8 && t.pc == 0x0153#16) = true := by
  decide

/-- V-W4. -/
theorem test_ld_at_nn_sp_ly_hook :
    (passes { at0150 [0x08#8, 0x43#8, 0xFF#8] with sp := 0x1234#16, mem := [(0xFF44, 0x07#8)], line := 7 } 20 fun t =>
      t.mem.get 0xFF43 == 0x34#8 && t.mem.get 0xFF44 == 0x00#8 && t.line == 0) = true := by
  decide

/-- V-W5. -/
theorem test_ld_at_nn_sp_wraps :
    (passes { at0150 [0x08#8, 0xFF#8, 0xFF#8] with sp := 0xABCD#16 } 20 fun t =>
      t.mem.get 0xFFFF == 0xCD#8 && t.memRead 0x0000#16 == 0x00#8) = true := by
  decide

/-- V-W6. -/
theorem test_ld_sp_hl :
    (passes { at0150 [0xF9#8] with h := 0xD0#8, l := 0x00#8 } 8 fun t =>
      t.sp == 0xD000#16) = true := by
  decide

/-- V-W7. -/
theorem test_ld_hl_sp_disp :
    (passes { at0150 [0xF8#8, 0x08#8] with sp := 0xFFF8#16, f := .ofByte 0xC0#8 } 12 fun t =>
      t.h == 0x00#8 && t.l == 0x00#8 && t.f.toByte == 0x30#8 && t.sp == 0xFFF8#16) = true := by
  decide

/-- V-W10. -/
theorem test_ld_hl_sp_minus_one :
    (passes { at0150 [0xF8#8, 0xFF#8] with sp := 0x0001#16, f := .ofByte 0x80#8 } 12 fun t =>
      t.h == 0x00#8 && t.l == 0x00#8 && t.f.toByte == 0x30#8) = true := by
  decide

/-- V-A1. -/
theorem test_add_a_a :
    (passes { at0150 [0x87#8] with a := 0x80#8, f := .ofByte 0x40#8 } 4 fun t =>
      t.a == 0x00#8 && t.f.toByte == 0x90#8) = true := by
  decide

/-- V-A4. -/
theorem test_add_a_n_wraps :
    (passes { at0150 [0xC6#8, 0x01#8] with a := 0xFF#8 } 8 fun t =>
      t.a == 0x00#8 && t.f.toByte == 0xB0#8) = true := by
  decide

/-- V-A5. -/
theorem test_add_a_at_hl :
    (passes { at0150 [0x86#8] with a := 0x12#8, h := 0xC0#8, l := 0x00#8, mem := [(0xC000, 0x34#8)] } 8 fun t =>
      t.a == 0x46#8 && t.f.toByte == 0x00#8) = true := by
  decide

/-- V-A7. -/
theorem test_adc_a_n_half_carry :
    (passes { at0150 [0xCE#8, 0x00#8] with a := 0xFF#8, f := .ofByte 0x10#8 } 8 fun t =>
      t.a == 0x00#8 && t.f.toByte == 0xB0#8) = true := by
  decide

/-- V-A8. -/
theorem test_adc_a_a :
    (passes { at0150 [0x8F#8] with a := 0x80#8, f := .ofByte 0x10#8 } 4 fun t =>
      t.a == 0x01#8 && t.f.toByte == 0x10#8) = true := by
  decide

/-- V-A9. -/
theorem test_sub_a :
    (passes { at0150 [0x97#8] with a := 0x5D#8, f := .ofByte 0x30#8 } 4 fun t =>
      t.a == 0x00#8 && t.f.toByte == 0xC0#8) = true := by
  decide

/-- V-A10. -/
theorem test_sub_n_borrows :
    (passes { at0150 [0xD6#8, 0x01#8] with a := 0x00#8 } 8 fun t =>
      t.a == 0xFF#8 && t.f.toByte == 0x70#8) = true := by
  decide

/-- V-A13. -/
theorem test_sbc_a_n_full_borrow :
    (passes { at0150 [0xDE#8, 0xFF#8] with a := 0x00#8, f := .ofByte 0x10#8 } 8 fun t =>
      t.a == 0x00#8 && t.f.toByte == 0xF0#8) = true := by
  decide

/-- V-A14. -/
theorem test_sbc_a_a :
    (passes { at0150 [0x9F#8] with a := 0x77#8, f := .ofByte 0x10#8 } 4 fun t =>
      t.a == 0xFF#8 && t.f.toByte == 0x70#8) = true := by
  decide

/-- V-A15. -/
theorem test_sbc_stubbed :
    (passes { at0150 [0x98#8] with
        a := 0x77#8, b := 0x01#8, f := .ofByte 0x10#8, config := { Config.default with stubOptional := true } } 4 fun t =>
      t.a == 0x77#8 && t.f.toByte == 0x10#8 && t.pc == 0x0151#16 &&
        t.fault == some { opcode := .primary 0x98#8, addr := 0x0150#16 }) = true := by
  decide

/-- V-A16. -/
theorem test_and_n :
    (passes { at0150 [0xE6#8, 0x0F#8] with a := 0x5A#8, f := .ofByte 0x50#8 } 8 fun t =>
      t.a == 0x0A#8 && t.f.toByte == 0x20#8) = true := by
  decide

/-- V-A18. -/
theorem test_xor_a :
    (passes { at0150 [0xAF#8] with a := 0xC3#8, f := .ofByte 0xF0#8 } 4 fun t =>
      t.a == 0x00#8 && t.f.toByte == 0x80#8) = true := by
  decide

/-- V-A21. -/
theorem test_or_n :
    (passes { at0150 [0xF6#8, 0x03#8] with a := 0x5A#8 } 8 fun t =>
      t.a == 0x5B#8 && t.f.toByte == 0x00#8) = true := by
  decide

/-- V-A22. -/
theorem test_cp_n :
    (passes { at0150 [0xFE#8, 0x40#8] with a := 0x3C#8 } 8 fun t =>
      t.a == 0x3C#8 && t.f.toByte == 0x50#8) = true := by
  decide

/-- V-A24. -/
theorem test_cp_at_hl :
    (passes { at0150 [0xBE#8] with a := 0x3C#8, h := 0xC0#8, l := 0x00#8, mem := [(0xC000, 0x2F#8)] } 8 fun t =>
      t.a == 0x3C#8 && t.f.toByte == 0x60#8) = true := by
  decide

/-- V-A26. -/
theorem test_inc_a_keeps_carry :
    (passes { at0150 [0x3C#8] with a := 0xFF#8, f := .ofByte 0x00#8 } 4 fun t =>
      t.a == 0x00#8 && t.f.toByte == 0xA0#8) = true := by
  decide

/-- V-A28. -/
theorem test_inc_at_hl_on_ly :
    (passes { at0150 [0x34#8] with h := 0xFF#8, l := 0x44#8, mem := [(0xFF44, 0x0F#8)], line := 15 } 12 fun t =>
      t.mem.get 0xFF44 == 0x00#8 && t.line == 0 && t.f.toByte == 0x20#8) = true := by
  decide

/-- V-A30. -/
theorem test_dec_c_wraps :
    (passes { at0150 [0x0D#8] with c := 0x00#8, f := .ofByte 0x10#8 } 4 fun t =>
      t.c == 0xFF#8 && t.f.toByte == 0x70#8) = true := by
  decide

/-- V-A32. -/
theorem test_dec_at_hl :
    (passes { at0150 [0x35#8] with h := 0xC0#8, l := 0x00#8, f := .ofByte 0x10#8 } 12 fun t =>
      t.mem.get 0xC000 == 0xFF#8 && t.f.toByte == 0x70#8) = true := by
  decide

/-- V-X1. -/
theorem test_add_hl_bc :
    (passes { at0150 [0x09#8] with h := 0x8A#8, l := 0x23#8, b := 0x06#8, c := 0x05#8, f := .ofByte 0x80#8 } 8 fun t =>
      t.h == 0x90#8 && t.l == 0x28#8 && t.f.toByte == 0xA0#8) = true := by
  decide

/-- V-X2. -/
theorem test_add_hl_hl_zero_keeps_z :
    (passes { at0150 [0x29#8] with h := 0x80#8, l := 0x00#8, f := .ofByte 0x00#8 } 8 fun t =>
      t.h == 0x00#8 && t.l == 0x00#8 && t.f.toByte == 0x10#8) = true := by
  decide

/-- V-X5. -/
theorem test_add_sp_minus_two :
    (passes { at0150 [0xE8#8, 0xFE#8] with sp := 0xFFF8#16, f := .ofByte 0x80#8 } 16 fun t =>
      t.sp == 0xFFF6#16 && t.f.toByte == 0x30#8) = true := by
  decide

/-- V-X8. -/
theorem test_add_sp_minus_128 :
    (passes { at0150 [0xE8#8, 0x80#8] with sp := 0x0100#16 } 16 fun t =>
      t.sp == 0x0080#16 && t.f.toByte == 0x00#8) = true := by
  decide

/-- V-X9. -/
theorem test_inc_de :
    (passes { at0150 [0x13#8] with d := 0x00#8, e := 0xFF#8, f := .ofByte 0xF0#8 } 8 fun t =>
      t.d == 0x01#8 && t.e == 0x00#8 && t.f.toByte == 0xF0#8) = true := by
  decide

/-- V-X11. -/
theorem test_dec_bc_wraps :
    (passes { at0150 [0x0B#8] with b := 0x00#8, c := 0x00#8 } 8 fun t =>
      t.b == 0xFF#8 && t.c == 0xFF#8 && t.f.toByte == 0x00#8) = true := by
  decide

/-- V-S1. -/
theorem test_push_bc :
    (passes { at0150 [0xC5#8] with b := 0x12#8, c := 0x34#8 } 16 fun t =>
      t.sp == 0xFFFC#16 && t.mem.get 0xFFFC == 0x34#8 && t.mem.get 0xFFFD == 0x12#8) = true := by
  decide

/-- V-S5. -/
theorem test_pop_af_masks_low_nibble :
    (passes { at0150 [0xF1#8] with sp := 0xC000#16, mem := [(0xC000, 0x9F#8), (0xC001, 0x12#8)] } 12 fun t =>
      t.a == 0x12#8 && t.f.toByte == 0x90#8 && t.sp == 0xC002#16) = true := by
  decide

/-- V-S7. -/
theorem test_push_de_wraps :
    (passes { at0150 [0xD5#8] with sp := 0x0001#16, d := 0xA5#8, e := 0x5A#8 } 16 fun t =>
      t.sp == 0xFFFF#16 && t.mem.get 0xFFFF == 0x5A#8 && t.memRead 0x0000#16 == 0x00#8) = true := by
  decide

/-- V-S9. -/
theorem test_push_hl_on_ly :
    (passes { at0150 [0xE5#8] with
        sp := 0xFF46#16, h := 0x12#8, l := 0x34#8, mem := [(0xFF44, 0x09#8)], line := 9 } 16 fun t =>
      t.mem.get 0xFF44 == 0x00#8 && t.mem.get 0xFF45 == 0x12#8 && t.line == 0 && t.sp == 0xFF44#16) = true := by
  decide

/-- V-S10. -/
theorem test_pop_hl_wraps :
    (passes { at0150 [0xE1#8] with sp := 0xFFFF#16, mem := [(0xFFFF, 0x34#8)] } 12 fun t =>
      t.h == 0x00#8 && t.l == 0x34#8 && t.sp == 0x0001#16) = true := by
  decide

/-- V-J1. -/
theorem test_jp_nn : (passes (at0150 [0xC3#8, 0x00#8, 0x02#8]) 12 fun t => t.pc == 0x0200#16) = true := by decide

/-- V-J3. -/
theorem test_jp_z_not_taken :
    (passes { at0150 [0xCA#8, 0x00#8, 0x02#8] with f := .ofByte 0x00#8 } 12 fun t =>
      t.pc == 0x0153#16) = true := by
  decide

/-- V-J5. -/
theorem test_jp_at_hl :
    (passes { at0150 [0xE9#8] with h := 0xC0#8, l := 0x00#8 } 4 fun t =>
      t.pc == 0xC000#16) = true := by
  decide

/-- V-J8. -/
theorem test_jr_minus_128 : (passes (at0150 [0x18#8, 0x80#8]) 8 fun t => t.pc == 0x00D2#16) = true := by decide

/-- V-J9. -/
theorem test_jr_nz_taken :
    (passes { at0150 [0x20#8, 0xFB#8] with f := .ofByte 0x00#8 } 8 fun t =>
      t.pc == 0x014D#16) = true := by
  decide

/-- V-J11. -/
theorem test_jr_c_taken :
    (passes { at0150 [0x38#8, 0x7F#8] with f := .ofByte 0x10#8 } 8 fun t =>
      t.pc == 0x01D1#16) = true := by
  decide

/-- V-J12. -/
theorem test_call_nn :
    (passes (at0150 [0xCD#8, 0x00#8, 0x03#8]) 12 fun t =>
      t.pc == 0x0300#16 && t.sp == 0xFFFC#16 && t.mem.get 0xFFFC == 0x53#8 && t.mem.get 0xFFFD == 0x01#8) = true := by
  decide

/-- V-J13. -/
theorem test_call_c_not_taken :
    (passes { at0150 [0xDC#8, 0x00#8, 0x03#8] with f := .ofByte 0x00#8 } 12 fun t =>
      t.pc == 0x0153#16 && t.sp == 0xFFFE#16) = true := by
  decide

/-- V-J15. -/
theorem test_ret :
    (passes { at0150 [0xC9#8] with sp := 0xFFFC#16, mem := [(0xFFFC, 0x53#8), (0xFFFD, 0x01#8)] } 8 fun t =>
      t.pc == 0x0153#16 && t.sp == 0xFFFE#16) = true := by
  decide

/-- V-J16. -/
theorem test_ret_nz_not_taken :
    (passes { at0150 [0xC0#8] with
        sp := 0xFFFC#16, mem := [(0xFFFC, 0x53#8), (0xFFFD, 0x01#8)], f := .ofByte 0x80#8 } 8 fun t =>
      t.pc == 0x0151#16 && t.sp == 0xFFFC#16) = true := by
  decide

/-- V-J18. -/
theorem test_reti_sets_ime :
    (passes { at0150 [0xD9#8] with sp := 0xFFFC#16, mem := [(0xFFFC, 0x53#8), (0xFFFD, 0x01#8)] } 8 fun t =>
      t.pc == 0x0153#16 && t.sp == 0xFFFE#16 && t.ime) = true := by
  decide

/-- V-J19. -/
theorem test_rst_28 :
    (passes { at0150 [0xEF#8] with sp := 0xD000#16 } 32 fun t =>
      t.pc == 0x0028#16 && t.sp == 0xCFFE#16 && t.mem.get 0xCFFE == 0x51#8 && t.mem.get 0xCFFF == 0x01#8) = true := by
  decide

/-- V-B2. -/
theorem test_rlca_zero_sets_z :
    (passes { at0150 [0x07#8] with a := 0x00#8, f := .ofByte 0x10#8 } 4 fun t =>
      t.a == 0x00#8 && t.f.toByte == 0x80#8) = true := by
  decide

/-- V-B3. -/
theorem test_rla :
    (passes { at0150 [0x17#8] with a := 0x95#8, f := .ofByte 0x10#8 } 4 fun t =>
      t.a == 0x2B#8 && t.f.toByte == 0x10#8) = true := by
  decide

/-- V-B5. -/
theorem test_rrca :
    (passes { at0150 [0x0F#8] with a := 0x3B#8 } 4 fun t =>
      t.a == 0x9D#8 && t.f.toByte == 0x10#8) = true := by
  decide

/-- V-B6. -/
theorem test_rra :
    (passes { at0150 [0x1F#8] with a := 0x81#8 } 4 fun t =>
      t.a == 0x40#8 && t.f.toByte == 0x10#8) = true := by
  decide

/-- V-B8. -/
theorem test_rlc_b :
    (passes { at0150 [0xCB#8, 0x00#8] with b := 0x85#8 } 8 fun t =>
      t.b == 0x0B#8 && t.f.toByte == 0x10#8 && t.pc == 0x0152#16) = true := by
  decide

/-- V-B9. -/
theorem test_rrc_c :
    (passes { at0150 [0xCB#8, 0x09#8] with c := 0x01#8 } 8 fun t =>
      t.c == 0x80#8 && t.f.toByte == 0x10#8) = true := by
  decide

/-- V-B10. -/
theorem test_rl_l :
    (passes { at0150 [0xCB#8, 0x15#8] with l := 0x80#8 } 8 fun t =>
      t.l == 0x00#8 && t.f.toByte == 0x90#8) = true := by
  decide

/-- V-B11. -/
theorem test_rr_a :
    (passes { at0150 [0xCB#8, 0x1F#8] with a := 0x01#8, f := .ofByte 0x10#8 } 8 fun t =>
      t.a == 0x80#8 && t.f.toByte == 0x10#8) = true := by
  decide

/-- V-B12. -/
theorem test_sla_d :
    (passes { at0150 [0xCB#8, 0x22#8] with d := 0xB1#8 } 8 fun t =>
      t.d == 0x62#8 && t.f.toByte == 0x10#8) = true := by
  decide

/-- V-B13. -/
theorem test_sra_a :
    (passes { at0150 [0xCB#8, 0x2F#8] with a := 0x8A#8 } 8 fun t =>
      t.a == 0xC5#8 && t.f.toByte == 0x00#8) = true := by
  decide

/-- V-B15. -/
theorem test_swap_a :
    (passes { at0150 [0xCB#8, 0x37#8] with a := 0xF1#8, f := .ofByte 0xF0#8 } 8 fun t =>
      t.a == 0x1F#8 && t.f.toByte == 0x00#8) = true := by
  decide

/-- V-B17. -/
theorem test_srl_at_hl :
    (passes { at0150 [0xCB#8, 0x3E#8] with h := 0xC0#8, l := 0x00#8, mem := [(0xC000, 0xFF#8)] } 16 fun t =>
      t.mem.get 0xC000 == 0x7F#8 && t.f.toByte == 0x10#8) = true := by
  decide

/-- V-B20. -/
theorem test_bit_0_a :
    (passes { at0150 [0xCB#8, 0x47#8] with a := 0x80#8, f := .ofByte 0x10#8 } 8 fun t =>
      t.a == 0x80#8 && t.f.toByte == 0xB0#8) = true := by
  decide

/-- V-B21. -/
theorem test_bit_3_at_hl :
    (passes { at0150 [0xCB#8, 0x5E#8] with
        h := 0xC0#8, l := 0x00#8, mem := [(0xC000, 0x08#8)], f := .ofByte 0xC0#8 } 16 fun t =>
      t.mem.get 0xC000 == 0x08#8 && t.f.toByte == 0x20#8) = true := by
  decide

/-- V-B23. -/
theorem test_res_7_at_hl :
    (passes { at0150 [0xCB#8, 0xBE#8] with h := 0xC0#8, l := 0x00#8, mem := [(0xC000, 0xFF#8)] } 16 fun t =>
      t.mem.get 0xC000 == 0x7F#8) = true := by
  decide

/-- V-B25. -/
theorem test_set_1_e :
    (passes (at0150 [0xCB#8, 0xCB#8]) 8 fun t =>
      t.e == 0x02#8 && t.pc == 0x0152#16) = true := by
  decide

/-- V-B26. -/
theorem test_res_stubbed :
    (passes { at0150 [0xCB#8, 0x87#8] with a := 0xFF#8, config := { Config.default with stubOptional := true } } 8 fun t =>
      t.a == 0xFF#8 && t.pc == 0x0152#16 && t.fault == some { opcode := .extended 0x87#8, addr := 0x0150#16 }) = true := by
  decide

/-- V-B28. -/
theorem test_daa_after_add :
    (passes { at0150 [0x27#8] with a := 0x9A#8 } 4 fun t =>
      t.a == 0x00#8 && t.f.toByte == 0x90#8) = true := by
  decide

/-- V-B30, its second step. -/
theorem test_daa_after_sub :
    (passes { at0150 [0x27#8] with a := 0xFF#8, f := .ofByte 0x70#8 } 4 fun t =>
      t.a == 0x99#8 && t.f.toByte == 0x50#8) = true := by
  decide

/-- V-B33. -/
theorem test_cpl :
    (passes { at0150 [0x2F#8] with a := 0x35#8, f := .ofByte 0x80#8 } 4 fun t =>
      t.a == 0xCA#8 && t.f.toByte == 0xE0#8) = true := by
  decide

/-- V-B36. -/
theorem test_scf :
    (passes { at0150 [0x37#8] with f := .ofByte 0xE0#8 } 4 fun t =>
      t.f.toByte == 0x90#8) = true := by
  decide

/-- V-B37. -/
theorem test_ccf :
    (passes { at0150 [0x3F#8] with f := .ofByte 0xF0#8 } 4 fun t =>
      t.f.toByte == 0x80#8) = true := by
  decide

/-- V-C1. -/
theorem test_nop :
    (passes { at0150 [0x00#8] with a := 0x12#8, f := .ofByte 0xB0#8, b := 0x34#8, c := 0x56#8, sp := 0xD000#16 } 4 fun t =>
      t.a == 0x12#8 && t.f.toByte == 0xB0#8 && t.b == 0x34#8 && t.sp == 0xD000#16 && t.pc == 0x0151#16) = true := by
  decide

/-- V-C2. -/
theorem test_halt : (passes (at0150 [0x76#8]) 4 fun t => t.halted && t.pc == 0x0151#16) = true := by decide

/-- V-C4. -/
theorem test_stop :
    (passes (at0150 [0x10#8, 0x3C#8]) 4 fun t =>
      t.stopped && t.pc == 0x0151#16 && t.a == 0x00#8) = true := by
  decide

/-- V-C5. -/
theorem test_di : (passes { at0150 [0xF3#8] with ime := true } 4 fun t => !t.ime) = true := by decide

/-- V-C6. -/
theorem test_ei : (passes (at0150 [0xFB#8]) 4 fun t => t.ime) = true := by decide

/-- V-C7. -/
theorem test_illegal_d3 :
    (passes { at0150 [0xD3#8] with a := 0x12#8, f := .ofByte 0xB0#8 } 0 fun t =>
      t.a == 0x12#8 && t.f.toByte == 0xB0#8 && t.pc == 0x0151#16 &&
        t.fault == some { opcode := .primary 0xD3#8, addr := 0x0150#16 }) = true := by
  decide

/-- A byte store with the bytes listed. -/
def memOf (cells : List (Nat × Byte)) : Memory := cells.foldl (fun m p => Memory.set m p.1 p.2) []

/-! The cartridge bus: V-M1 to V-M22. -/

/-- A bus whose cartridge has the banks given, each with its number plus 0xB0 at its first byte where listed. -/
def banked (mode : MbcMode) (rom ram : Nat) (markers : Memory) : State :=
  { State.reset with
    cart := { len := rom * 0x4000, bytes := markers }
    header := { Header.blank with romBanks := rom, ramBanks := ram, mbcMode := mode } }

/-- Four ROM banks and four RAM banks. -/
def banked4 : State :=
  banked .simple 4 4 [(0x0000, 0xB0#8), (0x4000, 0xB1#8), (0x8000, 0xB2#8), (0xC000, 0xB3#8)]

/-- Seventy-two ROM banks and no RAM. -/
def banked72 : State := banked .simple 72 0 [(0x0000, 0xB0#8), (0x70000, 0xCC#8)]

/-- V-M1. -/
theorem test_bus_at_reset :
    (banked4.memRead 0x4000#16, banked4.memRead 0x0000#16, banked4.romBank, banked4.ramEnabled) =
      (0xB1#8, 0xB0#8, 1, false) := by
  decide

/-- V-M2 to V-M5: the bank number and what the window then reads. -/
theorem test_bus_rom_bank :
    ([(0x2000#16, 0x02#8), (0x3FFF#16, 0x05#8), (0x2100#16, 0x00#8), (0x2000#16, 0xFF#8)].map fun w =>
      ((banked4.memWrite w.1 w.2).romBank, (banked4.memWrite w.1 w.2).memRead 0x4000#16)) =
      [(2, 0xB2#8), (1, 0xB1#8), (0, 0xB0#8), (3, 0xB3#8)] := by
  decide

/-- V-M6 and V-M7: no command at 0x6000, and a store to disabled external RAM is dropped. -/
theorem test_bus_no_effect :
    banked4.memWrite 0x6000#16 0x01#8 = banked4 ∧ banked4.memWrite 0xA000#16 0x55#8 = banked4 ∧
      banked4.memRead 0xA000#16 = 0xFF#8 := by
  decide

/-- V-M8 to V-M15, as one run of stores: what external RAM reads after each, and its contents at the end. -/
theorem test_bus_external_ram :
    let stores : List (Word × Byte) := [(0x0000#16, 0x0A#8), (0xA000#16, 0x55#8), (0x4000#16, 0x02#8), (0xA000#16, 0x66#8),
      (0x5FFF#16, 0x04#8), (0x1FFF#16, 0x00#8), (0xA000#16, 0x77#8), (0x0000#16, 0x1A#8)]
    ((List.range 8).map fun k => (banked4.writeAll (stores.take (k + 1))).memRead 0xA000#16) =
        [0x00#8, 0x55#8, 0x00#8, 0x66#8, 0x55#8, 0xFF#8, 0xFF#8, 0x55#8] ∧
      (banked4.writeAll stores).extram = [(0x0000, 0x55#8), (0x4000, 0x66#8)] := by
  decide

/-- V-M16 to V-M18: the mask first, then the modulus. -/
theorem test_bus_mask_then_modulo :
    ([0x64#8, 0xC8#8, 0x48#8].map fun v =>
      ((banked72.memWrite 0x2000#16 v).romBank, (banked72.memWrite 0x2000#16 v).memRead 0x4000#16)) =
      [(28, 0xCC#8), (0, 0xB0#8), (0, 0xB0#8)] := by
  decide

/-- V-M19 and V-M20: without RAM banks the RAM bank stays 0 and the window reads as open. -/
theorem test_bus_without_ram :
    (banked72.memWrite 0x4000#16 0x03#8).ramBank = 0 ∧
      (banked72.memWrite 0x0000#16 0x0A#8).ramEnabled = true ∧
      (banked72.memWrite 0x0000#16 0x0A#8).memRead 0xA000#16 = 0xFF#8 := by
  decide

/-- V-M21 and V-M22: mode none ignores every bank write. -/
theorem test_bus_mode_none :
    (banked .none 2 0 []).memWrite 0x2000#16 0x00#8 = banked .none 2 0 [] ∧
      (banked .none 2 0 []).memWrite 0x0000#16 0x0A#8 = banked .none 2 0 [] := by
  decide

/-! Cartridge load: V-K1 to V-K9. -/

/-- A zero-filled cartridge but for the three header bytes. -/
def cartOf (type romCode ramCode : Byte) (len : Nat) : Cartridge where
  len := len
  bytes := memOf [(0x147, type), (0x148, romCode), (0x149, ramCode)]

/-- Mode and bank counts of a cartridge that loads. -/
def loaded (k : Cartridge) : Option (MbcMode × Nat × Nat) :=
  k.load.toOption.map fun h => (h.mbcMode, h.romBanks, h.ramBanks)

/-- V-K1, V-K2, V-K3 and V-K9. -/
theorem test_cartridge_loads :
    [loaded (cartOf 0x00#8 0x01#8 0x00#8 65536), loaded (cartOf 0x01#8 0x05#8 0x02#8 1048576),
      loaded (cartOf 0x03#8 0x52#8 0x03#8 1179648), loaded (cartOf 0x00#8 0x00#8 0x00#8 40000)] =
      [some (.none, 4, 0), some (.simple, 64, 1), some (.simple, 72, 4), some (.none, 2, 0)] := by
  decide

/-- V-K4 to V-K8. -/
theorem test_cartridge_failures :
    (cartOf 0x00#8 0x00#8 0x00#8 32767).load = .error .truncated ∧
      (cartOf 0x00#8 0x00#8 0x00#8 0x148).load = .error .truncated ∧
      (cartOf 0x00#8 0x07#8 0x00#8 32768).load = .error .badRomSizeCode ∧
      (cartOf 0x00#8 0x00#8 0x06#8 32768).load = .error .badRamSizeCode ∧
      (cartOf 0x05#8 0x00#8 0x00#8 32768).load = .error .unsupportedType :=
  ⟨rfl, rfl, rfl, rfl, rfl⟩

/-! One tick: overlay, video, interrupts, faults. -/

/-- The state after a tick is as `p` says. -/
def ticks (s : State) (p : State → Bool) : Bool :=
  match step s with
  | .next t => p t
  | _ => false

/-- The reset state with bytes at 0x0100 and the stack of Part 5 of the vectors. -/
def at0100 (bytes : List Byte) : State := ({ State.reset with sp := 0xD000#16 }).placeFetchBytes 0x0100#16 bytes

/-- The boot overlay of V-O1 over a cartridge with 0xB0 at 0x0000. -/
def overlaid : State :=
  { State.reset with
    pc := 0x0000#16
    overlayActive := true
    bootOverlay := some [(0, 0xC3#8), (2, 0x01#8)]
    cart := { len := 0x8000, bytes := [(0, 0xB0#8)] } }

/-- V-O1 and V-O2. -/
theorem test_overlay_runs :
    (ticks overlaid fun t => t.pc == 0x0100#16 && t.overlayActive && t.memRead 0x0000#16 == 0xC3#8) = true := by
  decide

/-- V-O3. -/
theorem test_overlay_removed :
    (ticks { overlaid with pc := 0x0100#16 } fun t =>
      t.pc == 0x0101#16 && !t.overlayActive && t.memRead 0x0000#16 == 0xB0#8) = true := by
  decide

/-- The display on, in the mode, on the line and at the clock given. -/
def displaying (mode : PpuMode) (line clock : Nat) : State :=
  { at0100 [] with mem := [(0xFF40, 0x80#8)], mode := mode, line := line, clock := clock }

/-- V-T1, its last tick. -/
theorem test_oam_ends : (ticks (displaying .oam 0 76) fun t => t.mode == .xfer && t.clock == 0) = true := by decide

/-- V-T3, its last tick. -/
theorem test_hblank_ends :
    (ticks (displaying .hblank 0 200) fun t =>
      t.mode == .oam && t.clock == 0 && t.line == 1 && t.mem.get 0xFF44 == 0x01#8) = true := by
  decide

/-- V-T5, its last tick. -/
theorem test_frame_complete :
    (ticks (displaying .hblank 143 200) fun t =>
      t.mode == .vblank && t.line == 144 && t.mem.get 0xFF44 == 0x90#8 && t.mem.get 0xFF0F == 0x01#8 &&
        t.frames.length == 1) = true := by
  decide

/-- V-T8, its last tick. -/
theorem test_frame_wraps :
    (ticks (displaying .vblank 153 452) fun t => t.mode == .oam && t.line == 0 && t.mem.get 0xFF44 == 0x00#8) = true := by
  decide

/-- V-T11a, its first tick: with the display off nothing advances. -/
theorem test_display_off :
    (ticks (at0100 []) fun t => t.line == 0 && t.mode == .oam && t.clock == 0 && t.mem.get 0xFF44 == 0x00#8) = true := by
  decide

/-- V-T11b, its second tick: the store that turns the display on already counts. -/
theorem test_display_on_counts :
    (ticks { at0100 [0xE0#8, 0x40#8] with a := 0x80#8 } fun t => t.mode == .oam && t.clock == 12) = true := by
  decide

/-- The memory of V-P1 with LCDC, SCY, SCX and BGP, and more bytes after them. -/
def tiled (lcdc scy scx bgp : Byte) (more : Memory) : State :=
  { State.reset with
    mem := memOf ([(0x8010, 0x3C#8), (0x8011, 0x7E#8), (0x9800, 0x01#8), (0xFF40, lcdc), (0xFF42, scy), (0xFF43, scx),
      (0xFF47, bgp)] ++ more) }

/-- The brightness of the leftmost pixels of a rendered line. -/
def brightness (s : State) (ly count : Nat) : List Nat :=
  (List.range count).map fun x => (s.backgroundPixel ly x).r.toNat

/-- V-P1 and V-P2. -/
theorem test_render_tile :
    brightness (tiled 0x91#8 0x00#8 0x00#8 0xE4#8 []) 0 9 = [255, 85, 0, 0, 0, 0, 85, 255, 255] ∧
      brightness (tiled 0x91#8 0x00#8 0xFC#8 0xE4#8 []) 0 12 =
        [255, 255, 255, 255, 255, 85, 0, 0, 0, 0, 85, 255] := by
  decide

/-- V-P3 and V-P4: signed tile numbers and another palette. -/
theorem test_render_signed_and_palette :
    brightness (tiled 0x81#8 0x00#8 0x00#8 0xE4#8 [(0x9010, 0xFF#8)]) 0 9 =
        [170, 170, 170, 170, 170, 170, 170, 170, 255] ∧
      brightness (tiled 0x81#8 0x00#8 0x00#8 0x1B#8 [(0x9010, 0xFF#8)]) 0 9 = [85, 85, 85, 85, 85, 85, 85, 85, 0] := by
  decide

/-- V-P5: the second map. -/
theorem test_render_second_map :
    brightness (tiled 0x99#8 0x00#8 0x00#8 0xE4#8 [(0x9C00, 0x80#8), (0x8801, 0xFF#8)]) 0 9 =
      [85, 85, 85, 85, 85, 85, 85, 85, 255] := by
  decide

/-- V-P6 and V-P7: vertical scroll wraps. -/
theorem test_render_scroll_y :
    brightness (tiled 0x91#8 0xFF#8 0x00#8 0xE4#8 []) 1 8 = [255, 85, 0, 0, 0, 0, 85, 255] ∧
      brightness (tiled 0x91#8 0xFF#8 0x00#8 0xE4#8 []) 0 8 = [255, 255, 255, 255, 255, 255, 255, 255] := by
  decide

/-- A NOP at 0x0100 with IME, IF and IE. -/
def interruptible (ime : Bool) (requests enables : Byte) : State :=
  { at0100 [] with ime := ime, mem := memOf [(0xFF0F, requests), (0xFFFF, enables)] }

/-- V-I1. -/
theorem test_interrupt_vblank_first :
    (ticks (interruptible true 0x05#8 0x05#8) fun t =>
      t.pc == 0x0040#16 && t.sp == 0xCFFE#16 && t.mem.get 0xCFFE == 0x01#8 && t.mem.get 0xCFFF == 0x01#8 && !t.ime &&
        t.mem.get 0xFF0F == 0x04#8) = true := by
  decide

/-- V-I2. -/
theorem test_interrupt_joypad :
    (ticks (interruptible true 0x14#8 0x10#8) fun t => t.pc == 0x0060#16 && t.mem.get 0xFF0F == 0x04#8) = true := by
  decide

/-- V-I3. -/
theorem test_interrupt_master_clear :
    (ticks (interruptible false 0x1F#8 0x1F#8) fun t =>
      t.pc == 0x0101#16 && t.sp == 0xD000#16 && t.mem.get 0xFF0F == 0x1F#8) = true := by
  decide

/-- V-I5. -/
theorem test_interrupt_high_bits :
    (ticks (interruptible true 0xE0#8 0xFF#8) fun t =>
      t.pc == 0x0101#16 && t.ime && t.mem.get 0xFF0F == 0xE0#8) = true := by
  decide

/-- V-I6. -/
theorem test_interrupt_after_ei :
    (ticks { at0100 [0xFB#8] with mem := [(0xFF0F, 0x01#8), (0xFFFF, 0x01#8)] } fun t =>
      t.pc == 0x0040#16 && t.mem.get 0xCFFE == 0x01#8 && t.mem.get 0xCFFF == 0x01#8 && !t.ime &&
        t.mem.get 0xFF0F == 0x00#8) = true := by
  decide

/-- V-I8. -/
theorem test_halt_woken_by_its_own_cycles :
    (ticks { at0100 [0x76#8] with
        ime := true, mem := [(0xFF40, 0x80#8), (0xFFFF, 0x01#8)], mode := .hblank, line := 143, clock := 200 } fun t =>
      !t.halted && t.pc == 0x0040#16 && t.mem.get 0xCFFE == 0x01#8 && !t.ime && t.line == 144 && t.mode == .vblank &&
        t.clock == 5 && t.frames.length == 1) = true := by
  decide

/-- V-I9, its first tick and one more. -/
theorem test_halt_stuck :
    (ticks { at0100 [0x76#8] with
        ime := true, mem := [(0xFF40, 0x80#8), (0xFFFF, 0x01#8)], mode := .hblank, line := 143, clock := 100 } fun t =>
      t.halted && t.pc == 0x0101#16 && t.clock == 104 && t.status == .stuck && ticks t fun u => u == t) = true := by
  decide

/-- V-I10: the push of an interrupt entry lands on IF. -/
theorem test_interrupt_push_over_if :
    (ticks { interruptible true 0x01#8 0x01#8 with sp := 0xFF11#16 } fun t =>
      t.sp == 0xFF0F#16 && t.pc == 0x0040#16 && t.mem.get 0xFF0F == 0x01#8 && t.mem.get 0xFF10 == 0x01#8) = true := by
  decide

/-- V-I11, its last tick. -/
theorem test_stopped_takes_nothing :
    (ticks { interruptible true 0x01#8 0x01#8 with stopped := true } fun t =>
      t.stopped && t.pc == 0x0100#16 && t.mem.get 0xFF0F == 0x01#8) = true := by
  decide

/-- V-C9. -/
theorem test_break_flag :
    (ticks { at0150 [0x00#8] with breakNext := true } fun t =>
      !t.breakNext && t.pc == 0x0151#16 && t.tickResult == .stopRequested) = true := by
  decide

/-- V-C7 as a tick, and the tick after it. -/
theorem test_fault_ends_the_run :
    (ticks (at0150 [0xD3#8]) fun t => t.tickResult == .faulted && t.pc == 0x0151#16) = true ∧
      step { at0150 [] with fault := some { opcode := .primary 0xD3#8, addr := 0x0150#16 } } =
        .fault (.illegalInstruction { opcode := .primary 0xD3#8, addr := 0x0150#16 }) :=
  ⟨by decide, rfl⟩

/-- A word of the table is stored where `step` fetches: the row SWAP A, as the first instruction after reset (R123). -/
theorem test_with_fetch_word :
    decodeTableWord 16 0xCB37 = some .swapA ∧
      (ticks ({ State.reset with a := 0xF1#8 }.withFetchWord 16 0xCB37) fun t => t.a == 0x1F#8 && t.pc == 0x0102#16) =
        true := by
  decide

/-! Witnesses: for every obligation with hypotheses, inputs that meet them together, clause by clause at the ends of the
clause's range. -/

/-- `DecodeOfEncode`: an instruction with an operand, and bytes after it. -/
theorem witness_decode_of_encode :
    (Instr.jpNn 0xFFFF#16).WellFormed ∧ decode (encode (.jpNn 0xFFFF#16) ++ [0x12#8]) = .ok (.jpNn 0xFFFF#16, [0x12#8]) :=
  ⟨by decide, rfl⟩

/-- `EncodeOfDecode`. -/
theorem witness_encode_of_decode : decode [0xCB#8, 0xFF#8, 0x00#8] = .ok (.set7A, [0x00#8]) := rfl

/-- `LengthFromFirstByte`, the second and the third clause, at the lengths 1, 2 and 3. -/
theorem witness_length_from_first_byte :
    (lengthOf 0x00#8 ≤ ([] : List Byte).length + 1 ∧ lengthOf 0xCB#8 ≤ [0x00#8].length + 1 ∧
      lengthOf 0xFA#8 ≤ [0x00#8, 0x00#8].length + 1) ∧
      (([] : List Byte).length + 1 < lengthOf 0xCB#8 ∧ [0x00#8].length + 1 < lengthOf 0xFA#8) := by
  decide

/-- `PushPopRoundTrip`: the stack in work RAM, across the top of the address space, and in video RAM. -/
theorem witness_push_pop_round_trip :
    ∀ sp ∈ [0xD000#16, 0x0000#16, 0x8002#16],
      ({ State.reset with sp := sp }).hooks = HookRegistry.atReset ∧
        ({ State.reset with sp := sp }).Keeps (sp - 2#16) ∧ ({ State.reset with sp := sp }).Keeps (sp - 1#16) := by
  simp [State.Keeps, lyAddr, State.reset]

/-- `BcdArithmetic`, at both ends of the range. -/
theorem witness_bcd_arithmetic :
    ((99 < 100 ∧ 99 < 100) ∧ ({ State.reset with a := 0x99#8 }).a = BitVec.ofNat 8 (16 * (99 / 10) + 99 % 10)) ∧
      ((0 < 100 ∧ 99 < 100) ∧ State.reset.a = BitVec.ofNat 8 (16 * (0 / 10) + 0 % 10)) := by
  decide

/-- `DisableAndEnableInterrupts`, the third and the fourth clause. -/
theorem witness_disable_and_enable_interrupts :
    State.reset.ime = false ∧
      (interruptible true 0x10#8 0x10#8).ime = true ∧ (interruptible true 0x10#8 0x10#8).stopped = false ∧
      (interruptible true 0x10#8 0x10#8).pendingSources ≠ 0#8 := by
  decide

/-- A machine with the optional instructions left out. -/
def stubbed : State := { State.reset with config := { Config.default with stubOptional := true } }

/-- `IllegalOpcodesFault`: a member of the list, the stub, a latched fault. -/
theorem witness_illegal_opcodes_fault :
    (Instr.illegalD3, 0xD3#8) ∈ illegalOpcodes ∧ stubbed.config.stubOptional = true ∧
      ({ State.reset with fault := some { opcode := .extended 0x80#8, addr := 0xFFFF#16 } }).fault =
        some { opcode := .extended 0x80#8, addr := 0xFFFF#16 } := by
  decide

/-- `ControlStateFrame`: an instruction that changes nothing of it, one that changes IME, a bank command, and a fault. -/
theorem witness_control_state_frame :
    (∃ t, exec .nop State.reset = .next t) ∧ (∃ t, exec .ei State.reset = .next t ∧ t.ime = true) ∧
      (∃ t, exec (.ldAtNnA 0x2000#16) { banked4 with a := 0x02#8 } = .next t ∧ t.romBank = 2) ∧
      (∃ t, exec .illegalD3 State.reset = .next t ∧ t.fault ≠ State.reset.fault) ∧
      banked4.hooks = HookRegistry.atReset :=
  ⟨⟨_, rfl⟩, ⟨_, rfl, rfl⟩, ⟨_, rfl, rfl⟩, ⟨_, rfl, by decide⟩, rfl⟩

/-- `MemoryFrame`: a store to 0xC000 and the address after it; a store to video RAM and the switchable window; an instruction
that stores nothing and any address. -/
theorem witness_memory_frame :
    (∃ t, exec .ldAtHlA { State.reset with h := 0xC0#8 } = .next t) ∧
      (∀ w ∈ storesOf .ldAtHlA { State.reset with h := 0xC0#8 }, echoIndex w.1 ≠ echoIndex 0xC001#16 ∧
        0x8000 ≤ w.1.toNat) ∧
      (∀ w ∈ storesOf .ldAtHlA { State.reset with h := 0x80#8 }, echoIndex w.1 ≠ echoIndex 0x4000#16 ∧
        0x8000 ≤ w.1.toNat) ∧
      (∃ t, exec .nop State.reset = .next t) ∧ storesOf .nop State.reset = [] :=
  ⟨⟨_, rfl⟩, List.forall_mem_singleton.2 (by decide), List.forall_mem_singleton.2 (by decide), ⟨_, rfl⟩, rfl⟩

/-- `BusRead`: each clause at both ends of its range. -/
theorem witness_bus_read :
    (∀ a ∈ [0x0000#16, 0x00FF#16], a.toNat ≤ 0x00FF ∧ overlaid.overlayActive = true) ∧
      (∀ a ∈ [0x0000#16, 0x00FF#16], a.toNat ≤ 0x00FF ∧ State.reset.overlayActive = false) ∧
      (∀ a ∈ [0x0100#16, 0x3FFF#16], 0x0100 ≤ a.toNat ∧ a.toNat ≤ 0x3FFF) ∧
      (∀ a ∈ [0x4000#16, 0x7FFF#16], 0x4000 ≤ a.toNat ∧ a.toNat ≤ 0x7FFF) ∧
      (∀ a ∈ [0xA000#16, 0xBFFF#16], 0xA000 ≤ a.toNat ∧ a.toNat ≤ 0xBFFF) ∧
      (∀ a ∈ [0xE000#16, 0xFDFF#16], 0xE000 ≤ a.toNat ∧ a.toNat ≤ 0xFDFF) ∧
      (∀ a ∈ [0x8000#16, 0x9FFF#16, 0xC000#16, 0xDFFF#16, 0xFE00#16, 0xFFFF#16],
        (0x8000 ≤ a.toNat ∧ a.toNat ≤ 0x9FFF) ∨ (0xC000 ≤ a.toNat ∧ a.toNat ≤ 0xDFFF) ∨ 0xFE00 ≤ a.toNat) := by
  simp [overlaid, State.reset]

/-- `BankControlWrites`: both modes, and each sub-range at its ends. -/
theorem witness_bank_control_writes :
    (banked4.hooks = HookRegistry.atReset ∧ banked4.header.mbcMode = .simple ∧ 0 < banked4.header.romBanks) ∧
      (State.reset.hooks = HookRegistry.atReset ∧ State.reset.header.mbcMode = .none) ∧
      (∀ a ∈ [0x0000#16, 0x1FFF#16], a.toNat ≤ 0x7FFF ∧ a.toNat ≤ 0x1FFF) ∧
      (∀ a ∈ [0x2000#16, 0x3FFF#16], a.toNat ≤ 0x7FFF ∧ 0x2000 ≤ a.toNat ∧ a.toNat ≤ 0x3FFF) ∧
      (∀ a ∈ [0x4000#16, 0x5FFF#16], a.toNat ≤ 0x7FFF ∧ 0x4000 ≤ a.toNat ∧ a.toNat ≤ 0x5FFF) ∧
      (∀ a ∈ [0x6000#16, 0x7FFF#16], a.toNat ≤ 0x7FFF ∧ 0x6000 ≤ a.toNat) ∧ 96 ≤ 2 ^ 7 := by
  simp [banked4, banked, State.reset, Header.blank]

/-- `StoredByteReadsBack`: the storage at the ends of its regions, and external RAM disabled and absent. -/
theorem witness_stored_byte_reads_back :
    ({ banked4 with ramEnabled := true }).hooks = HookRegistry.atReset ∧
      (∀ a ∈ [0x8000#16, 0x9FFF#16, 0xA000#16, 0xBFFF#16, 0xC000#16, 0xFDFF#16, 0xFFFF#16],
        ({ banked4 with ramEnabled := true }).Keeps a) ∧
      (∀ a ∈ [0xA000#16, 0xBFFF#16], 0xA000 ≤ a.toNat ∧ a.toNat ≤ 0xBFFF ∧
        (banked4.ramEnabled = false ∨ banked4.header.ramBanks = 0) ∧
        (({ banked72 with ramEnabled := true }).ramEnabled = false ∨ banked72.header.ramBanks = 0)) ∧
      echoIndex 0xE000#16 = echoIndex 0xC000#16 ∧ echoIndex 0xFDFF#16 = echoIndex 0xDDFF#16 := by
  simp [State.Keeps, State.extRamOn, lyAddr, banked4, banked72, banked, State.reset, Header.blank, echoIndex]

/-- `LyWriteHook`. -/
theorem witness_ly_write_hook :
    (displaying .vblank 146 0).hooks = HookRegistry.atReset ∧ (0xFF43#16 : Word) ≠ 0xFF44#16 := by
  decide

/-- `StepRunsDecodedInstruction`: an instruction that runs on, and one that faults. -/
theorem witness_step_runs_decoded_instruction :
    (at0100 [0x3C#8]).Running ∧ (at0100 [0xD3#8]).Running ∧
      (decode [(at0100 [0x3C#8]).atFetch.memRead 0x0100#16, (at0100 [0x3C#8]).atFetch.memRead 0x0101#16,
          (at0100 [0x3C#8]).atFetch.memRead 0x0102#16] = .ok (.incA, [0x00#8, 0x00#8]) ∧
        ∃ t, exec .incA (at0100 [0x3C#8]).atFetch = .next t ∧ t.fault = none) ∧
      (decode [(at0100 [0xD3#8]).atFetch.memRead 0x0100#16, (at0100 [0xD3#8]).atFetch.memRead 0x0101#16,
          (at0100 [0xD3#8]).atFetch.memRead 0x0102#16] = .ok (.illegalD3, [0x00#8, 0x00#8]) ∧
        ∃ t, exec .illegalD3 (at0100 [0xD3#8]).atFetch = .next t ∧ t.fault ≠ none) :=
  ⟨⟨rfl, rfl, rfl⟩, ⟨rfl, rfl, rfl⟩, ⟨rfl, _, rfl, rfl⟩, rfl, _, rfl, by decide⟩

/-- An override is the cost charged, by the number of its opcode: NOP at 20, SWAP A at 12 (R7, R131; log entry 8). -/
theorem test_cycle_overrides :
    (passes { at0150 [0x00#8] with config := { Config.default with cycleOverrides := [(0, 20)] } } 20 fun t =>
        t.pc == 0x0151#16) = true ∧
      (passes { at0150 [0xCB#8, 0x37#8] with config := { Config.default with cycleOverrides := [(0x137, 12)] } } 12 fun t =>
        t.pc == 0x0152#16) = true := by
  decide

/-- `CycleCosts`: the default table, a table with an override at each end, an opcode that has a handler. -/
theorem witness_cycle_costs :
    State.reset.config.cycleOverrides = [] ∧ ({ Config.default with cycleOverrides := [(0, 4), (511, 32)] }).Admitted ∧
      (0xFF#8 : Byte) ≠ 0xCB#8 ∧ 0xFF#8 ∉ illegalOpcodes.map (·.2) := by
  decide

/-- The reset state, waiting or not, is within the invariant; the witness for the obligations that assume it. -/
theorem witness_inv (halted breakNext : Bool) :
    State.Inv { State.reset with halted := halted, breakNext := breakNext } where
  memory := ⟨⟨.nil, by simp [State.reset]⟩, by simp [State.reset], ⟨.nil, by simp [State.reset]⟩, by simp [State.reset]⟩
  banks := ⟨by simp [State.reset, Header.blank], by simp [State.reset, Header.blank]⟩
  video := ⟨Nat.zero_le _, fun _ => Nat.zero_le _, rfl, by simp [State.reset, modeThreshold], fun _ => ⟨rfl, rfl, rfl⟩⟩
  canvas := ⟨⟨.nil, by simp [State.reset]⟩, by simp [State.reset]⟩
  frames := by simp [State.reset]
  hooks := rfl
  loaded := rfl
  overlay := by simp [State.reset]
  interrupts := Or.inr (Or.inl rfl)
  waits := by simp [State.reset]

/-- `StuckTickIsIdentity`: halted at reset, with and without the break flag. -/
theorem witness_stuck_tick_is_identity (breakNext : Bool) :
    State.Inv { State.reset with halted := true, breakNext := breakNext } ∧
      State.Stuck { State.reset with halted := true, breakNext := breakNext } :=
  ⟨witness_inv true breakNext, ⟨rfl, Or.inl rfl⟩, rfl⟩

/-- `BreakFlag`: a tick that runs on and one that faults. -/
theorem witness_break_flag :
    (∃ t, step State.reset = .next t ∧ t.fault = none) ∧ ∃ t, step (at0150 [0xD3#8]) = .next t ∧ t.fault ≠ none :=
  ⟨⟨_, rfl, rfl⟩, _, rfl, by decide⟩

/-- `InterruptDispatch`: stopped, IME clear, nothing pending, and each of the five sources the least pending. -/
theorem witness_interrupt_dispatch :
    ({ State.reset with stopped := true }).stopped = true ∧ State.reset.ime = false ∧
      State.reset.rawRead 0xFF0F#16 &&& State.reset.rawRead 0xFFFF#16 &&& 0x1F#8 = 0#8 ∧
      ∀ p ∈ [(InterruptSource.vblank, 0xFF#8), (.lcdStatus, 0xFE#8), (.timer, 0xFC#8), (.serial, 0xF8#8), (.joypad, 0xF0#8)],
        let s := interruptible true 0xFF#8 p.2
        let m := s.rawRead 0xFF0F#16 &&& s.rawRead 0xFFFF#16 &&& 0x1F#8
        s.stopped = false ∧ s.ime = true ∧ m.getLsbD (sourceBit p.1) = true ∧ ∀ j < sourceBit p.1, m.getLsbD j = false := by
  decide

/-- `VideoAdvance`: the display off, and each mode just below and at its threshold, at the lines where the cases part. -/
theorem witness_video_advance :
    (State.reset.rawRead 0xFF40#16).getLsbD 7 = false ∧
      (∀ m ∈ [PpuMode.oam, .xfer, .hblank, .vblank], ∀ line ∈ [0, 142, 143, 152, 153],
        ((displaying m line 0).rawRead 0xFF40#16).getLsbD 7 = true ∧ (displaying m line 0).mode = m ∧
          (displaying m line 0).line = line) ∧
      ((displaying .oam 0 79).clock + 0 < 80 ∧ 80 ≤ (displaying .oam 0 79).clock + 1) ∧
      ((displaying .xfer 0 171).clock + 0 < 172 ∧ 172 ≤ (displaying .xfer 0 171).clock + 1) ∧
      ((displaying .hblank 143 203).clock + 0 < 204 ∧ 204 ≤ (displaying .hblank 143 203).clock + 1) ∧
      ((displaying .vblank 153 455).clock + 0 < 456 ∧ 456 ≤ (displaying .vblank 153 455).clock + 1) := by
  decide

/-- `RenderLinePixels`: the last column. -/
theorem witness_render_line_pixels : 159 < 160 ∧ (0 : Nat) ≠ 143 := by decide

/-- `PowerOnValues`: a cartridge that loads and one that does not. -/
theorem witness_power_on_values :
    LoadParams.blank.cart.load = .ok Header.blank ∧
      ({ LoadParams.blank with cart := { Cartridge.blank with len := 0 } }).cart.load = .error .truncated :=
  ⟨rfl, rfl⟩

/-- `CartridgeLoad`: each failing clause, alone. -/
theorem witness_cartridge_load :
    (mbcModeOf 0x00#8 = some .none ∧ romBanksOf 0x00#8 = some 2 ∧ ramBanksOf 0x00#8 = some 0 ∧ 0x7FFF < 2 * 0x4000) ∧
      (mbcModeOf 0x04#8 = none ∧ 2 * 0x4000 ≤ 0x8000) ∧ (romBanksOf 0x07#8 = none ∧ 0x14A ≤ 0x8000) ∧
      ramBanksOf 0x06#8 = none := by
  decide

/-- `ParametersAndOverlay`: a tick with the overlay off, one that fetches at 0x0100 with it on, and one below. -/
theorem witness_parameters_and_overlay :
    ((∃ t, step State.reset = .next t) ∧ State.reset.overlayActive = false) ∧
      ((∃ t, step { overlaid with pc := 0x0100#16 } = .next t) ∧ ({ overlaid with pc := 0x0100#16 }).Running) ∧
      ((∃ t, step overlaid = .next t) ∧ ¬(overlaid.Running ∧ overlaid.pc = 0x0100#16)) :=
  ⟨⟨⟨_, rfl⟩, rfl⟩, ⟨⟨_, rfl⟩, ⟨rfl, rfl, rfl⟩⟩, ⟨_, rfl⟩, fun h => absurd h.2 (by decide)⟩

/-- `FramesAppendOnly`: a tick that hands a frame out. -/
theorem witness_frames_append_only :
    ∃ t, step (displaying .hblank 143 200) = .next t ∧ t.frames = [(displaying .hblank 143 200).canvas] :=
  ⟨_, rfl, rfl⟩

/-- `PowerOnSatisfiesInvariant`: the blank parameters. -/
theorem witness_power_on_satisfies_invariant :
    LoadParams.blank.cart.load = .ok Header.blank ∧ LoadParams.blank.Ok Header.blank ∧
      powerOn LoadParams.blank = .ok State.reset :=
  ⟨rfl,
    ⟨by decide, by decide, by decide, by decide,
      ⟨⟨List.Pairwise.nil, by simp [LoadParams.blank, Init.zero]⟩, by simp [LoadParams.blank, Init.zero]⟩⟩,
    powerOn_blank⟩

/-- `StepKeepsInvariant`: a state within the invariant, and a tick from it. -/
theorem witness_step_keeps_invariant : State.reset.Inv ∧ ∃ t, step State.reset = .next t :=
  ⟨witness_inv false false, _, rfl⟩

end Sys2Proof.Machine
end

section
/-! PROOFS of the family 10_state.md: reset builds states within the invariant (O58, O59), no tick changes a parameter (O56),
and every tick keeps the invariant (O60). The invariant is cut in two. `State.UnitsOk` is the part that every operation inside
a tick keeps: an instruction's stores, interrupt entry and `Advance`. The rest of it holds only between ticks, and the last
`Advance` and the interrupt dispatch before it re-establish it. -/

namespace Sys2Proof.Machine

/-! ### Reset -/

/-- A cartridge that loads has the number of ROM banks its code names (R66). -/
theorem Cartridge.romBanksOf_of_load {k : Cartridge} {header : Header} (h : k.load = .ok header) :
    romBanksOf (k.bytes.get 0x148) = some header.romBanks := by
  unfold Cartridge.load at h
  split at h
  · cases h
  · split at h
    · cases h
    · cases h
    · cases h
    · rename_i hrom _
      split at h
      · cases h
      · cases h; exact hrom

theorem two_le_of_romBanksOf {v : Byte} {n : Nat} (h : romBanksOf v = some n) : 2 ≤ n := by
  unfold romBanksOf at h
  split at h <;> cases h <;> decide

theorem powerOn_of_load {p : LoadParams} {header : Header} (h : p.cart.load = .ok header) :
    powerOn p = .ok (p.machine header) := by
  simp [powerOn, h]

/-- Reset writes LY into an image that fits, and both stores then fit (R33, R34, R45). -/
theorem LoadParams.memoryOk_machine {p : LoadParams} {header : Header} (h : p.Ok header) :
    (p.machine header).MemoryOk where
  mem := Memory.wf_set 0xFF44 0x00#8 h.mem
  memBound q hq := by
    have hq : q ∈ p.init.mem.set 0xFF44 0x00#8 := hq
    rcases Memory.mem_set hq with rfl | hq
    · decide
    · exact h.memBound q hq
  extram := h.extram
  extramBound := h.extramBound

/-- The line of the reset state is 0, which LY reads back, and the clock stands where the display-off state has it. -/
theorem LoadParams.videoOk_machine (p : LoadParams) (header : Header) : (p.machine header).VideoOk where
  line := Nat.zero_le _
  visible _ := Nat.zero_le _
  readback := Memory.get_set_self p.init.mem 0xFF44 0x00#8
  clock := by show 0 < modeThreshold .oam; decide
  off _ := ⟨rfl, rfl, rfl⟩

theorem LoadParams.inv_machine {p : LoadParams} {header : Header} (hload : p.cart.load = .ok header)
    (h : p.Ok header) : (p.machine header).Inv where
  memory := LoadParams.memoryOk_machine h
  banks := ⟨two_le_of_romBanksOf (Cartridge.romBanksOf_of_load hload), lt_max_of_lt_right Nat.one_pos⟩
  video := p.videoOk_machine header
  canvas := h.canvas
  frames _ hc := nomatch hc
  hooks := rfl
  loaded := hload
  overlay h := h
  interrupts := .inr (.inl rfl)
  waits h := nomatch h.1

/-- Settles O59: the machine that `powerOn` answers is `LoadParams.machine`, and that one is within the invariant. -/
theorem powerOnSatisfiesInvariant : Obligations.PowerOnSatisfiesInvariant := by
  intro p header s hload hp hs
  rw [powerOn_of_load hload] at hs
  cases hs
  exact LoadParams.inv_machine hload hp

theorem LoadParams.blank_ok : LoadParams.blank.Ok Header.blank where
  mem := ⟨.nil, nofun⟩
  memBound := nofun
  extram := ⟨.nil, nofun⟩
  extramBound := nofun
  canvas := ⟨⟨.nil, nofun⟩, nofun⟩

/-- Settles O58: the reset state is what reset builds from the blank parameters, which are admitted. -/
theorem resetSatisfiesInvariant : Obligations.ResetSatisfiesInvariant :=
  powerOnSatisfiesInvariant LoadParams.blank Header.blank State.reset rfl LoadParams.blank_ok powerOn_blank

/-! ### What no operation of a tick changes -/

/-- The parameters, the header, the hook registry and the boot overlay's bit (R35 to R37, R52, R78). -/
structure FixedPart where
  cart : Cartridge
  header : Header
  bootOverlay : Option Memory
  config : Config
  hooks : HookRegistry
  overlayActive : Bool

/-- That part of a state. -/
def State.fixedPart (s : State) : FixedPart where
  cart := s.cart
  header := s.header
  bootOverlay := s.bootOverlay
  config := s.config
  hooks := s.hooks
  overlayActive := s.overlayActive

@[simp] theorem State.fixedPart_withCpuOf (s u : State) : (s.withCpuOf u).fixedPart = s.fixedPart := rfl

@[simp] theorem State.fixedPart_memWrite (s : State) (a : Word) (v : Byte) :
    (s.memWrite a v).fixedPart = s.fixedPart := by
  rw [State.memWrite_shape]; rfl

@[simp] theorem State.fixedPart_writeAll (s : State) (ws : List (Word × Byte)) :
    (s.writeAll ws).fixedPart = s.fixedPart := by
  induction ws generalizing s with
  | nil => rfl
  | cons p rest ih => exact (ih _).trans (s.fixedPart_memWrite p.1 p.2)

@[simp] theorem State.fixedPart_advance (s : State) (c : Nat) : (s.advance c).fixedPart = s.fixedPart := by
  rw [State.advance_shape]; rfl

@[simp] theorem State.fixedPart_takeInterrupt (s : State) (k : InterruptSource) :
    (s.takeInterrupt k).fixedPart = s.fixedPart := by
  simp [State.takeInterrupt_eq, State.fixedPart]

@[simp] theorem State.fixedPart_executeInterrupts (s : State) : s.executeInterrupts.1.fixedPart = s.fixedPart := by
  cases h : s.serviceable with
  | none => rw [State.executeInterrupts_none h]
  | some k => rw [State.executeInterrupts_some h, State.fixedPart_takeInterrupt]

@[simp] theorem State.fixedPart_finishTick (s : State) (cost : Nat) : (s.finishTick cost).fixedPart = s.fixedPart := by
  cases h : s.fault with
  | some record => rw [State.finishTick_fault h]; rfl
  | none =>
    rw [State.finishTick_running h]
    exact (State.fixedPart_advance _ _).trans <|
      (State.fixedPart_executeInterrupts _).trans (State.fixedPart_advance { s with breakNext := false } cost)

theorem InstrEffect.fixedPart {i : Instr} {s t : State} (h : InstrEffect i s t) : t.fixedPart = s.fixedPart := by
  rw [h.bus, State.fixedPart_withCpuOf, State.fixedPart_writeAll]

/-- A tick changes none of it, but for the overlay's bit at the fetch. -/
theorem step_fixedPart {s t : State} (h : step s = .next t) :
    (s.Waiting ∧ t.fixedPart = s.fixedPart) ∨ (s.Running ∧ t.fixedPart = s.dropOverlay.fixedPart) := by
  rcases step_cases h with ⟨hw, rfl⟩ | ⟨hf, hh, hp, u, he, -, rfl⟩
  · exact .inl ⟨hw, s.fixedPart_finishTick 0⟩
  · exact .inr ⟨⟨hf, hh, hp⟩, (State.fixedPart_finishTick _ _).trans he.fixedPart⟩

theorem State.not_running_of_waiting {s : State} (h : s.Waiting) : ¬s.Running := by
  rintro ⟨-, hh, hp⟩
  obtain ⟨-, hw⟩ := h
  simp [hh, hp] at hw

/-- Settles O56: a waiting tick keeps the fixed part, and one that fetches keeps that of the state after overlay removal. -/
theorem parametersAndOverlay : Obligations.ParametersAndOverlay := by
  intro s t hstep
  rcases step_fixedPart hstep with ⟨hw, heq⟩ | ⟨hr, heq⟩
  · injection heq with hcart hheader hboot hconfig hhooks hoverlay
    exact ⟨hcart, hheader, hboot, hconfig, hhooks, fun h => hoverlay.trans h,
      fun hr => absurd hr (State.not_running_of_waiting hw), fun _ => hoverlay⟩
  · rw [State.dropOverlay_eq] at heq
    injection heq with hcart hheader hboot hconfig hhooks hoverlay
    refine ⟨hcart, hheader, hboot, hconfig, hhooks, fun h => ?_, fun _ hpc => ?_, fun hn => ?_⟩
    · simp [hoverlay, h]
    · simp [hoverlay, hpc]
    · have hpc : s.pc ≠ 0x0100#16 := fun hpc => hn ⟨hr, hpc⟩
      simp [hoverlay, hpc]

/-! ### What every operation of a tick keeps -/

/-- The canvas and every frame handed out are 144 rows of 160 pixels (R39, R47). -/
structure State.PicturesOk (s : State) : Prop where
  canvas : Canvas.Ok s.canvas
  frames : ∀ c ∈ s.frames, Canvas.Ok c

/-- The part of the invariant that holds at every moment of a tick. -/
structure State.UnitsOk (s : State) : Prop where
  bus : s.BusOk
  video : s.VideoRunning
  pictures : s.PicturesOk
  hooks : s.hooks = HookRegistry.atReset

theorem State.Inv.unitsOk {s : State} (h : s.Inv) : s.UnitsOk where
  bus := ⟨h.memory, h.banks⟩
  video := State.videoRunning_of_ok h.video
  pictures := ⟨h.canvas, h.frames⟩
  hooks := h.hooks

/-- It looks at no CPU register, nor at the overlay's bit, the break flag and the result of the tick. -/
theorem State.UnitsOk.ofControl {s t : State} (h : s.UnitsOk)
    (ht : t = { s.withCpuOf t with
      overlayActive := t.overlayActive, breakNext := t.breakNext, tickResult := t.tickResult }) : t.UnitsOk := by
  rw [ht]
  exact
    { bus := State.busOk_of_eq h.bus rfl rfl rfl rfl rfl
      video := ⟨h.video.line, h.video.visible, h.video.readback, h.video.clock⟩
      pictures := ⟨h.pictures.canvas, h.pictures.frames⟩
      hooks := h.hooks }

theorem State.UnitsOk.memWrite {s : State} (h : s.UnitsOk) (a : Word) (v : Byte) : (s.memWrite a v).UnitsOk where
  bus := State.busOk_memWrite h.bus a v
  video := State.videoRunning_memWrite h.hooks h.video a v
  pictures := ⟨by simpa using h.pictures.canvas, by simpa using h.pictures.frames⟩
  hooks := by simpa using h.hooks

theorem State.UnitsOk.writeAll {s : State} (h : s.UnitsOk) (ws : List (Word × Byte)) : (s.writeAll ws).UnitsOk := by
  induction ws generalizing s with
  | nil => exact h
  | cons p rest ih => exact ih (h.memWrite p.1 p.2)

theorem InstrEffect.unitsOk {i : Instr} {s t : State} (he : InstrEffect i s t) (h : s.UnitsOk) : t.UnitsOk := by
  rw [he.bus]
  exact (h.writeAll (storesOf i s)).ofControl rfl

theorem State.UnitsOk.dropOverlay {s : State} (h : s.UnitsOk) : s.dropOverlay.UnitsOk := by
  rw [State.dropOverlay_eq]
  exact h.ofControl rfl

@[simp] theorem State.length_renderRow (s : State) (ly : Nat) : (s.renderRow ly).length = 160 := by
  simp [State.renderRow]

/-- Rendering a visible line keeps the canvas 144 rows of 160 pixels (R344). -/
theorem State.canvasOk_renderLine {s : State} (h : Canvas.Ok s.canvas) {ly : Nat} (hly : ly ≤ 143) :
    Canvas.Ok (s.renderLine ly).canvas where
  canonical := Sparse.canonical_set blankRow ly (s.renderRow ly) h.canonical
  rows p hp := by
    rcases Sparse.mem_set blankRow hp with rfl | hp
    · exact ⟨Nat.lt_succ_of_le hly, s.length_renderRow ly⟩
    · exact h.rows p hp

/-- The line rendered at the end of pixel transfer is a visible one, and the frame handed out is the canvas. -/
theorem State.picturesOk_endMode {s : State} (h : s.PicturesOk) (hvisible : s.mode ≠ .vblank → s.line ≤ 143) :
    s.endMode.PicturesOk := by
  cases hm : s.mode <;> simp only [State.endMode, hm]
  · exact ⟨h.canvas, h.frames⟩
  · exact ⟨State.canvasOk_renderLine h.canvas (hvisible (by simp [hm])), h.frames⟩
  · unfold State.endHblank
    split
    · refine ⟨h.canvas, fun c hc => ?_⟩
      rcases List.mem_append.mp hc with hc | hc
      · exact h.frames c hc
      · rw [List.mem_singleton.mp hc]; exact h.canvas
    · exact ⟨h.canvas, h.frames⟩
  · unfold State.endVblankLine
    split <;> exact ⟨h.canvas, h.frames⟩

theorem State.picturesOk_advance {s : State} (h : s.PicturesOk) (hvisible : s.mode ≠ .vblank → s.line ≤ 143)
    (c : Nat) : (s.advance c).PicturesOk := by
  unfold State.advance
  split
  · split
    · exact ⟨h.canvas, h.frames⟩
    · exact State.picturesOk_endMode (s := { s with clock := 0 }) ⟨h.canvas, h.frames⟩ hvisible
  · exact ⟨h.canvas, h.frames⟩

theorem State.UnitsOk.advance {s : State} (h : s.UnitsOk) (c : Nat) : (s.advance c).UnitsOk where
  bus := State.busOk_advance h.bus c
  video := State.videoRunning_of_ok (State.videoOk_advance h.video c)
  pictures := State.picturesOk_advance h.pictures h.video.visible c
  hooks := by simpa using h.hooks

theorem State.UnitsOk.takeInterrupt {s : State} (h : s.UnitsOk) (k : InterruptSource) : (s.takeInterrupt k).UnitsOk where
  bus := State.busOk_takeInterrupt h.bus k
  video := State.videoRunning_takeInterrupt h.hooks h.video k
  pictures := by
    obtain ⟨hcanvas, hframes⟩ := h.pictures
    constructor <;> simpa [State.takeInterrupt_eq]
  hooks := by simpa [State.takeInterrupt_eq] using h.hooks

theorem State.UnitsOk.executeInterrupts {s : State} (h : s.UnitsOk) : s.executeInterrupts.1.UnitsOk := by
  cases hk : s.serviceable with
  | none => rw [State.executeInterrupts_none hk]; exact h
  | some k => rw [State.executeInterrupts_some hk]; exact h.takeInterrupt k

/-! ### What the end of a tick re-establishes -/

/-- The CPU is stopped, or masked, or has no enabled source pending (R451 (a)). -/
def State.Settled (s : State) : Prop := s.stopped = true ∨ s.ime = false ∨ s.pendingSources = 0#8

/-- With no cycles to count the engine posts no interrupt: below the threshold it stays, and switched off it restarts. -/
theorem State.pendingSources_advance_zero {s : State} (h : s.VideoOk) :
    (s.advance 0).pendingSources = s.pendingSources := by
  cases hd : s.displayOn with
  | true => rw [State.advance_stay s 0 hd h.clock]; rfl
  | false =>
    have hne : ∀ a : Word, a ≠ lyAddr → echoIndex a ≠ echoIndex lyAddr := fun a ha =>
      (echoIndex_inj_of_high (by decide)).not.mpr ha
    have hraw : ∀ a : Word, a ≠ lyAddr → s.displayOffReset.rawRead a = s.rawRead a := fun a ha =>
      Memory.get_set_ne s.mem 0x00#8 (hne a ha)
    rw [State.advance_off s 0 hd]
    unfold State.pendingSources
    rw [hraw ifAddr (by decide), hraw ieAddr (by decide)]

/-- The engine's turn after the dispatch makes nothing pending that the CPU would still serve: a dispatch has cleared IME,
and without one the engine gets no cycles. -/
theorem State.settled_advance_executeInterrupts {s : State} (h : s.VideoOk) :
    (s.executeInterrupts.1.advance s.executeInterrupts.2).Settled := by
  have hs := s.interrupts_settled
  unfold State.Settled
  rw [State.advance_stopped, State.advance_ime]
  cases hk : s.serviceable with
  | none =>
    rw [State.executeInterrupts_none hk] at hs ⊢
    rwa [State.pendingSources_advance_zero h]
  | some k =>
    rw [State.executeInterrupts_some hk]
    refine .inr (.inl ?_)
    simp [State.takeInterrupt_eq]

/-- Interrupt dispatch can only end a halt. -/
theorem State.waits_executeInterrupts {s : State} (h : ¬(s.halted = true ∧ s.stopped = true)) :
    ¬(s.executeInterrupts.1.halted = true ∧ s.executeInterrupts.1.stopped = true) := by
  cases hk : s.serviceable with
  | none => rw [State.executeInterrupts_none hk]; exact h
  | some k => rw [State.executeInterrupts_some hk]; simp [State.takeInterrupt_eq]

/-- No instruction both halts and stops (R28, R29). -/
theorem InstrEffect.waits {i : Instr} {s t : State} (he : InstrEffect i s t) (hh : s.halted = false)
    (hp : s.stopped = false) : ¬(t.halted = true ∧ t.stopped = true) := by
  rintro ⟨hth, htp⟩
  have hhalt : i = .halt := he.halted.resolve_left (by simp [hth, hh])
  have hstop : i = .stop := he.stopped.resolve_left (by simp [htp, hp])
  rw [hhalt] at hstop
  cases hstop

/-- The part of the invariant that the end of a tick re-establishes. -/
structure State.TickEndOk (s : State) : Prop where
  units : s.UnitsOk
  video : s.VideoOk
  settled : s.Settled
  waits : ¬(s.halted = true ∧ s.stopped = true)

/-- Without a fault the rest of the tick asks only for the units, and that the CPU is not both halted and stopped. -/
theorem State.tickEndOk_finishTick {s : State} (hf : s.fault = none) (h : s.UnitsOk)
    (hw : ¬(s.halted = true ∧ s.stopped = true)) (cost : Nat) : (s.finishTick cost).TickEndOk := by
  rw [State.finishTick_running hf]
  have hbreak : State.UnitsOk { s with breakNext := false } := h.ofControl rfl
  have hv := State.videoOk_advance hbreak.video cost
  have hserved := (hbreak.advance cost).executeInterrupts
  have hw' : ¬(({ s with breakNext := false }.advance cost).halted = true ∧
      ({ s with breakNext := false }.advance cost).stopped = true) := by simpa using hw
  generalize { s with breakNext := false }.advance cost = a at hv hserved hw'
  have hlast := State.videoOk_advance hserved.video a.executeInterrupts.2
  exact
    { units := (hserved.advance a.executeInterrupts.2).ofControl rfl
      video := ⟨hlast.line, hlast.visible, hlast.readback, hlast.clock, hlast.off⟩
      settled := State.settled_advance_executeInterrupts hv
      waits := by simpa using State.waits_executeInterrupts hw' }

/-- A tick that faults latches the record and moves PC, and the invariant looks at neither (R381). -/
theorem State.tickEndOk_raiseIllegal {s : State} (h : s.Inv) (op : OpcodeValue) (cost : Nat) :
    ((s.dropOverlay.raiseIllegal op).finishTick cost).TickEndOk := by
  rw [State.finishTick_fault rfl, State.dropOverlay_eq]
  obtain ⟨line, visible, readback, clock, off⟩ := h.video
  exact
    { units := h.unitsOk.ofControl rfl
      video := ⟨line, visible, readback, clock, off⟩
      settled := h.interrupts
      waits := h.waits }

theorem step_tickEndOk {s t : State} (h : s.Inv) (hstep : step s = .next t) : t.TickEndOk := by
  rcases step_cases hstep with ⟨⟨hf, -⟩, rfl⟩ | ⟨hf, hh, hp, u, he, -, rfl⟩
  · exact State.tickEndOk_finishTick hf h.unitsOk h.waits 0
  · rcases he.fault with hu | ⟨op, rfl⟩
    · have hdrop : s.dropOverlay.fault = none ∧ s.dropOverlay.halted = false ∧ s.dropOverlay.stopped = false := by
        rw [State.dropOverlay_eq]; exact ⟨hf, hh, hp⟩
      obtain ⟨hf', hh', hp'⟩ := hdrop
      exact State.tickEndOk_finishTick (hu.trans hf') (he.unitsOk h.unitsOk.dropOverlay) (he.waits hh' hp') _
    · exact State.tickEndOk_raiseIllegal h op _

/-- Settles O60: the tick keeps the parameters (O56), and its end re-establishes the rest. -/
theorem stepKeepsInvariant : Obligations.StepKeepsInvariant := by
  intro s t h hstep
  obtain ⟨hcart, hheader, hboot, -, hhooks, hoff, -, -⟩ := parametersAndOverlay s t hstep
  have hend := step_tickEndOk h hstep
  exact
    { memory := hend.units.bus.1
      banks := hend.units.bus.2
      video := hend.video
      canvas := hend.units.pictures.canvas
      frames := hend.units.pictures.frames
      hooks := hhooks.trans h.hooks
      loaded := by rw [hcart, hheader]; exact h.loaded
      overlay := fun hon => by
        have hs : s.overlayActive = true := by
          by_contra hne
          simp [hoff (by simpa using hne)] at hon
        rw [hboot]; exact h.overlay hs
      interrupts := hend.settled
      waits := hend.waits }

end Sys2Proof.Machine
end

section
/-! PROOFS of the family 20_memory.md: the hooked read range by range (O41), word accesses (O44), read after write (O43) and
the memory frame of every instruction (O40). A hooked write is one of four things, by its address: a bank command, a store to
external RAM, a store to the backing array, or, on LY, two of those. What a read sees after the first three is said once each. -/

namespace Sys2Proof.Machine

/-! ### The hooked read, range by range -/

/-- A read below the switchable window: the overlay while it is on, else the fixed bank (R64, R78). -/
theorem State.memRead_fixedBank (s : State) {a : Word} (h : a.toNat ≤ 0x3FFF) :
    s.memRead a = if a.toNat ≤ 0x00FF ∧ s.overlayActive = true then (s.bootOverlay.getD []).get a.toNat
      else s.cart.bytes.get a.toNat := by
  unfold State.memRead
  rw [if_pos h]

/-- A read in the switchable window (R68). -/
theorem State.memRead_romWindow (s : State) {a : Word} (h : 0x4000 ≤ a.toNat) (h' : a.toNat ≤ 0x7FFF) :
    s.memRead a = s.cart.bytes.get (s.romIndex a) := by
  unfold State.memRead
  rw [if_neg (by omega), if_neg (by omega), if_pos h']

theorem State.extRamOn_iff (s : State) : s.extRamOn = true ↔ s.ramEnabled = true ∧ 0 < s.header.ramBanks := by
  simp [State.extRamOn]

theorem State.extRamOn_eq_false_iff (s : State) :
    s.extRamOn = false ↔ s.ramEnabled = false ∨ s.header.ramBanks = 0 := by
  rw [← Bool.not_eq_true, State.extRamOn_iff, not_and_or, Bool.not_eq_true, Nat.not_lt, Nat.le_zero]

/-- External RAM reads its bank while it is present and enabled (R72). -/
theorem State.extRamRead_eq (s : State) (a : Word) :
    s.extRamRead a = if s.ramEnabled = true ∧ 0 < s.header.ramBanks then s.extram.get (s.extRamIndex a)
      else s.config.extramOpenRead := by
  unfold State.extRamRead
  simp only [State.extRamOn_iff]

theorem echoIndex_of_echo {a : Word} (h : 0xE000 ≤ a.toNat) (h' : a.toNat ≤ 0xFDFF) :
    echoIndex a = a.toNat - 0x2000 := if_pos ⟨h, h'⟩

theorem echoIndex_of_not_echo {a : Word} (h : ¬(0xE000 ≤ a.toNat ∧ a.toNat ≤ 0xFDFF)) : echoIndex a = a.toNat :=
  if_neg h

/-- Settles O41, a clause for each branch of the address decode. -/
theorem busRead : Obligations.BusRead := by
  intro s a
  refine ⟨fun h hon => ?_, fun h hoff => ?_, fun h h' => ?_, fun h h' => ?_, fun h h' => ?_, fun h h' => ?_, fun h => ?_⟩
  · rw [s.memRead_fixedBank (by omega), if_pos ⟨h, hon⟩]
  · rw [s.memRead_fixedBank (by omega), if_neg (by simp [hoff])]
  · rw [s.memRead_fixedBank h', if_neg (by omega)]
  · exact s.memRead_romWindow h h'
  · exact (s.memRead_extRam ⟨h, h'⟩).trans (s.extRamRead_eq a)
  · rw [s.memRead_raw (by omega) (by omega), State.rawRead, echoIndex_of_echo h h']
  · rw [s.memRead_raw (by omega) (by omega), State.rawRead, echoIndex_of_not_echo (by omega)]

/-! ### Word accesses -/

theorem toNat_wordOf (hi lo : Byte) : (wordOf hi lo).toNat = hi.toNat * 256 + lo.toNat := by
  have hlo : lo.toNat < 2 ^ 8 := lo.isLt
  calc (wordOf hi lo).toNat
    _ = hi.toNat <<< 8 ||| lo.toNat := BitVec.toNat_append hi lo
    _ = hi.toNat <<< 8 + lo.toNat := (Nat.shiftLeft_add_eq_or_of_lt hlo _).symm
    _ = hi.toNat * 256 + lo.toNat := by rw [Nat.shiftLeft_eq]

theorem loByte_eq_ofNat (w : Word) : loByte w = BitVec.ofNat 8 w.toNat := rfl

theorem hiByte_eq_ofNat (w : Word) : hiByte w = BitVec.ofNat 8 (w.toNat / 256) :=
  congrArg (BitVec.ofNat 8) (Nat.shiftRight_eq_div_pow w.toNat 8)

/-- Settles O44: both word accesses are defined by their byte accesses, so what is left is the bytes' weights. -/
theorem wordAccessOrder : Obligations.WordAccessOrder := by
  intro s a v
  refine ⟨toNat_wordOf _ _, ?_, rfl⟩
  rw [State.memWrite16, loByte_eq_ofNat, hiByte_eq_ofNat]
  rfl

/-! ### The hooked write, range by range -/

theorem State.memWrite_low {s : State} (hk : s.hooks = HookRegistry.atReset) {a : Word} (h : a.toNat ≤ 0x7FFF) (v : Byte) :
    s.memWrite a v = s.bankControl a v := by
  have hly : a ≠ lyAddr := by rintro rfl; exact absurd h (by decide)
  rw [State.memWrite_of_hooks s a v hk, if_neg hly, State.busStore, if_pos h]

theorem State.memWrite_extRam {s : State} (hk : s.hooks = HookRegistry.atReset) {a : Word}
    (h : 0xA000 ≤ a.toNat ∧ a.toNat ≤ 0xBFFF) (v : Byte) : s.memWrite a v = s.extRamWrite a v := by
  have hly : a ≠ lyAddr := by rintro rfl; exact absurd h (by decide)
  rw [State.memWrite_of_hooks s a v hk, if_neg hly, State.busStore, if_neg (by omega), if_pos h]

theorem State.memWrite_raw {s : State} (hk : s.hooks = HookRegistry.atReset) {a : Word} (h : 0x8000 ≤ a.toNat)
    (hx : ¬(0xA000 ≤ a.toNat ∧ a.toNat ≤ 0xBFFF)) (hly : a ≠ lyAddr) (v : Byte) : s.memWrite a v = s.rawWrite a v := by
  rw [State.memWrite_of_hooks s a v hk, if_neg hly, State.busStore, if_neg (by omega), if_neg hx]

/-- On LY the hook sets the line to 0 and stores 0 over the byte (R345). -/
theorem State.memWrite_ly {s : State} (hk : s.hooks = HookRegistry.atReset) (v : Byte) :
    s.memWrite lyAddr v = State.rawWrite { s.rawWrite lyAddr v with line := 0 } lyAddr 0x00#8 := by
  rw [State.memWrite_of_hooks s lyAddr v hk, if_pos rfl]
  rfl

/-! ### What a read sees after each kind of store -/

/-- The video engine's line is no part of what a read sees. -/
theorem State.memRead_withLine (s : State) (n : Nat) (b : Word) : State.memRead { s with line := n } b = s.memRead b :=
  rfl

/-- The echo relation (R63). -/
theorem echoIndex_eq_iff (a b : Word) : echoIndex a = echoIndex b ↔
    a = b ∨ (0xE000 ≤ a.toNat ∧ a.toNat ≤ 0xFDFF ∧ b.toNat = a.toNat - 0x2000) ∨
      (0xE000 ≤ b.toNat ∧ b.toNat ≤ 0xFDFF ∧ a.toNat = b.toNat - 0x2000) := by
  rw [← BitVec.toNat_inj]
  unfold echoIndex
  split <;> split <;> omega

/-- A store to the backing array is seen at its address and its echo: nothing else reads its cell (R63). -/
theorem State.memRead_rawWrite (s : State) {a : Word} (h : 0x8000 ≤ a.toNat)
    (hx : ¬(0xA000 ≤ a.toNat ∧ a.toNat ≤ 0xBFFF)) (b : Word) (v : Byte) :
    (s.rawWrite a v).memRead b = if echoIndex b = echoIndex a then v else s.memRead b := by
  have hne (hb : b.toNat < 0x8000 ∨ 0xA000 ≤ b.toNat ∧ b.toNat ≤ 0xBFFF) : echoIndex b ≠ echoIndex a := by
    rw [Ne, echoIndex_eq_iff, ← BitVec.toNat_inj]; omega
  by_cases hlow : b.toNat < 0x8000
  · rw [if_neg (hne (.inl hlow))]
    exact State.memRead_low hlow rfl rfl rfl rfl
  by_cases hext : 0xA000 ≤ b.toNat ∧ b.toNat ≤ 0xBFFF
  · rw [if_neg (hne (.inr hext)), State.memRead_extRam _ hext, State.memRead_extRam _ hext]
    rfl
  · rw [State.memRead_raw _ (by omega) hext, State.memRead_raw _ (by omega) hext, State.rawRead_rawWrite]

/-- A store to external RAM that is on is seen at its address alone (R72). -/
theorem State.memRead_extRamWrite_on {s : State} (hon : s.extRamOn = true) {a : Word}
    (ha : 0xA000 ≤ a.toNat ∧ a.toNat ≤ 0xBFFF) (b : Word) (v : Byte) :
    (s.extRamWrite a v).memRead b = if echoIndex b = echoIndex a then v else s.memRead b := by
  have hcell : echoIndex b = echoIndex a ↔ b.toNat = a.toNat := by
    rw [echoIndex_eq_iff, ← BitVec.toNat_inj]; omega
  rw [State.extRamWrite, if_pos hon]
  by_cases hext : 0xA000 ≤ b.toNat ∧ b.toNat ≤ 0xBFFF
  · have hindex : s.extRamIndex b = s.extRamIndex a ↔ b.toNat = a.toNat := by
      unfold State.extRamIndex; omega
    rw [State.memRead_extRam _ hext, State.memRead_extRam _ hext, State.extRamRead, State.extRamRead, if_pos hon]
    rw [if_pos (show State.extRamOn { s with extram := s.extram.set (s.extRamIndex a) v } = true from hon)]
    simp only [hcell, ← hindex]
    exact Memory.get_set _ _ _ _
  · rw [if_neg (by omega)]
    by_cases hlow : b.toNat < 0x8000
    · exact State.memRead_low hlow rfl rfl rfl rfl
    · rw [State.memRead_raw _ (by omega) hext, State.memRead_raw _ (by omega) hext]
      rfl

/-- A store to external RAM that is off or absent does nothing (R72). -/
theorem State.extRamWrite_off {s : State} (hoff : s.extRamOn = false) (a : Word) (v : Byte) : s.extRamWrite a v = s := by
  rw [State.extRamWrite, if_neg (by simp [hoff])]

/-- A bank command changes the banking state alone (R74). -/
theorem State.bankControl_shape (s : State) (a : Word) (v : Byte) :
    s.bankControl a v =
      { s with
        romBank := (s.bankControl a v).romBank
        ramBank := (s.bankControl a v).ramBank
        ramEnabled := (s.bankControl a v).ramEnabled } := by
  unfold State.bankControl
  repeat' split
  all_goals rfl

/-- A bank command moves the switchable window and that of external RAM, and no other address (R68, R72). -/
theorem State.memRead_bankControl (s : State) (a : Word) (v : Byte) {b : Word}
    (hb : b.toNat < 0x4000 ∨ (0x8000 ≤ b.toNat ∧ ¬(0xA000 ≤ b.toNat ∧ b.toNat ≤ 0xBFFF))) :
    (s.bankControl a v).memRead b = s.memRead b := by
  rw [State.bankControl_shape]
  rcases hb with hfixed | ⟨hhigh, hext⟩
  · rw [State.memRead_fixedBank _ (by omega), State.memRead_fixedBank _ (by omega)]
  · rw [State.memRead_raw _ hhigh hext, State.memRead_raw _ hhigh hext]
    rfl

/-! ### Read after write -/

theorem State.memRead_memWrite_of_keeps {s : State} (hk : s.hooks = HookRegistry.atReset) {a : Word} (ha : s.Keeps a)
    (b : Word) (v : Byte) :
    (s.memWrite a v).memRead b = if echoIndex b = echoIndex a then v else s.memRead b := by
  have hraw (h : 0x8000 ≤ a.toNat) (hx : ¬(0xA000 ≤ a.toNat ∧ a.toNat ≤ 0xBFFF)) (hly : a ≠ lyAddr) :
      (s.memWrite a v).memRead b = if echoIndex b = echoIndex a then v else s.memRead b := by
    rw [State.memWrite_raw hk h hx hly, State.memRead_rawWrite s h hx]
  rcases ha with hvideo | ⟨hlo, hhi, hon⟩ | ⟨hwork, hly⟩
  · exact hraw hvideo.1 (by omega) (by rintro rfl; exact absurd hvideo (by decide))
  · rw [State.memWrite_extRam hk ⟨hlo, hhi⟩, State.memRead_extRamWrite_on hon ⟨hlo, hhi⟩]
  · exact hraw (by omega) (by omega) hly

/-- Settles O43: read after write where a byte keeps, the echo relation, and the store that is dropped. -/
theorem storedByteReadsBack : Obligations.StoredByteReadsBack := by
  refine ⟨fun s a b v hk ha => State.memRead_memWrite_of_keeps hk ha b v, echoIndex_eq_iff, fun s a v hk hlo hhi hoff => ?_⟩
  rw [State.memWrite_extRam hk ⟨hlo, hhi⟩, State.extRamWrite_off (s.extRamOn_eq_false_iff.mpr hoff)]

/-! ### The memory frame -/

/-- A store to `a` leaves `b` alone: they share no cell, and `a` is no bank command or `b` lies in no window it moves. -/
def Spares (a b : Word) : Prop :=
  echoIndex a ≠ echoIndex b ∧
    (0x8000 ≤ a.toNat ∨ b.toNat < 0x4000 ∨ (0x8000 ≤ b.toNat ∧ ¬(0xA000 ≤ b.toNat ∧ b.toNat ≤ 0xBFFF)))

theorem State.memRead_memWrite_of_spares {s : State} (hk : s.hooks = HookRegistry.atReset) {a b : Word} (h : Spares a b)
    (v : Byte) : (s.memWrite a v).memRead b = s.memRead b := by
  obtain ⟨hcell, hwindow⟩ := h
  by_cases hlow : a.toNat < 0x8000
  · rw [State.memWrite_low hk (by omega), State.memRead_bankControl s a v (hwindow.resolve_left (by omega))]
  by_cases hext : 0xA000 ≤ a.toNat ∧ a.toNat ≤ 0xBFFF
  · rw [State.memWrite_extRam hk hext]
    cases hon : s.extRamOn with
    | true => rw [State.memRead_extRamWrite_on hon hext, if_neg hcell.symm]
    | false => rw [State.extRamWrite_off hon]
  have hraw (t : State) (w : Byte) : (t.rawWrite a w).memRead b = t.memRead b := by
    rw [State.memRead_rawWrite t (by omega) hext, if_neg hcell.symm]
  by_cases hly : a = lyAddr
  · subst hly
    rw [State.memWrite_ly hk, hraw, State.memRead_withLine, hraw]
  · rw [State.memWrite_raw hk (by omega) hext hly, hraw]

theorem State.memRead_writeAll_of_spares {s : State} (hk : s.hooks = HookRegistry.atReset) {ws : List (Word × Byte)}
    {b : Word} (h : ∀ w ∈ ws, Spares w.1 b) : (s.writeAll ws).memRead b = s.memRead b := by
  induction ws generalizing s with
  | nil => rfl
  | cons w rest ih =>
    obtain ⟨hw, hrest⟩ := List.forall_mem_cons.mp h
    calc ((s.memWrite w.1 w.2).writeAll rest).memRead b
      _ = (s.memWrite w.1 w.2).memRead b := ih ((s.memWrite_hooks w.1 w.2).trans hk) hrest
      _ = s.memRead b := State.memRead_memWrite_of_spares hk hw w.2

/-- Settles O40: outside the CPU registers an instruction is its listed stores, and each of them spares the address. -/
theorem memoryFrame : Obligations.MemoryFrame := by
  intro i s t b hk hexec hspares
  rw [(effect_of_exec hexec).bus, State.memRead_withCpuOf]
  exact State.memRead_writeAll_of_spares hk hspares

end Sys2Proof.Machine
end

section
/-! PROOFS of the family 30_encoding.md: decoding and encoding undo each other (O1, O2, O3), what a tick makes of the decoded
instruction (O46), what it charges for it (O47), and that the break flag takes no part in it (O49). -/

namespace Sys2Proof

/-! ### Decoding what was encoded -/

section
open Machine Laws.RoundTrip

/-- Every row of the opcode map reads back. The rows are closed terms that compute, but for those with a 16-bit immediate,
whose two bytes the decoder has to put together again. -/
theorem decode_encode (i : Instr) : Statement i := by
  apply Instr.byFamily (Q := Statement)
  case prefixCb => exact fun h => absurd rfl h
  case illegal =>
    simp only [illegalOpcodes, List.forall_mem_cons]
    exact ⟨illegalD3, illegalDB, illegalDD, illegalE3, illegalE4, illegalEB, illegalEC, illegalED, illegalF4, illegalFC,
      illegalFD, nofun⟩
  case ldAtNnSp | jpNn | callNn | ldAtNnA | ldAAtNn => exact fun nn _ rest => ofWord _ _ rfl nn rest
  case ldPairNn | jpCc | callCc =>
    intro x nn
    cases x <;> exact fun _ rest => ofWord _ _ rfl nn rest
  case ldRR =>
    intro dst src
    cases dst <;> cases src <;> exact fun _ _ => rfl
  case aluR | rotR | bitR | resR | setR =>
    intro x o
    cases o with
    | reg r => cases x <;> cases r <;> exact fun _ _ => rfl
    | atHl => cases x <;> exact fun _ _ => rfl
  case incR | decR =>
    intro o
    cases o with
    | reg r => cases r <;> exact fun _ _ => rfl
    | atHl => exact fun _ _ => rfl
  case ldRN | aluN | jrCc =>
    intro x n
    cases x <;> exact fun _ _ => rfl
  case ldRHl | ldHlR | addHlPair | incPair | decPair | pushPair | popPair | retCc | rstAt =>
    intro x
    cases x <;> exact fun _ _ => rfl
  case jrDisp | ldAtHlN | ldhAtNA | addSpDisp | ldhAAtN | ldHlSpDisp => exact fun _ _ _ => rfl
  all_goals exact fun _ _ => rfl

end

/-- Settles O2: the round trip of `decode_encode`, instruction by instruction. -/
theorem decodeOfEncode : Obligations.DecodeOfEncode := decode_encode

/-- Settles O1: each word is a closed term that the decoder evaluates. -/
theorem referenceWordsDecode : Obligations.ReferenceWordsDecode := by
  refine ⟨?_, ?_, ?_, ?_, ?_, ?_, ?_, ?_, ?_, ?_, ?_, ?_, ?_, ?_, ?_, ?_, ?_⟩ <;> rfl

/-! ### Encoding what was decoded -/

/-- A cell of the primary table stands at the byte its instructions encode to, and none of them is the bare entry byte. -/
inductive PrimaryCell.EncodesAt : PrimaryCell → Byte → Prop
  | op {i : Instr} {b0 : Byte} (h : i.WellFormed ∧ encode i = [b0]) : EncodesAt (.op i) b0
  | n8 {mk : Byte → Instr} {b0 : Byte} (h : ∀ n, (mk n).WellFormed ∧ encode (mk n) = [b0, n]) : EncodesAt (.n8 mk) b0
  | nn16 {mk : Word → Instr} {b0 : Byte} (h : ∀ nn, (mk nn).WellFormed ∧ encode (mk nn) = encodeNn b0 nn) :
      EncodesAt (.nn16 mk) b0
  | cb : EncodesAt .cb 0xCB#8

/-- The primary table of R128, byte by byte. -/
theorem primaryCell_encodesAt (b0 : Byte) : (primaryCell b0).EncodesAt b0 := by
  obtain ⟨n, rfl, hlt⟩ : ∃ n, b0 = BitVec.ofNat 8 n ∧ n < 256 := ⟨b0.toNat, by simp, b0.isLt⟩
  interval_cases n <;> constructor <;> intros <;> exact ⟨nofun, rfl⟩

/-- The extended table of R129, byte by byte. -/
theorem encode_decodeExtended (op2 : Byte) :
    (decodeExtended op2).WellFormed ∧ encode (decodeExtended op2) = [0xCB#8, op2] := by
  obtain ⟨n, rfl, hlt⟩ : ∃ n, op2 = BitVec.ofNat 8 n ∧ n < 256 := ⟨op2.toNat, by simp, op2.isLt⟩
  interval_cases n <;> exact ⟨nofun, rfl⟩

/-- The instruction at three bytes is well formed, and encodes to as many of them as the first one asks for. -/
theorem encode_decode3 (b0 b1 b2 : Byte) :
    (decode3 b0 b1 b2).WellFormed ∧ encode (decode3 b0 b1 b2) = [b0, b1, b2].take (lengthOf b0) := by
  have hcell := primaryCell_encodesAt b0
  unfold decode3 lengthOf
  generalize primaryCell b0 = cell at hcell ⊢
  cases hcell with
  | op h => exact h
  | n8 h => exact h b1
  | nn16 h =>
    obtain ⟨hwf, henc⟩ := h (wordOf b2 b1)
    exact ⟨hwf, by simp [henc, encodeNn]⟩
  | cb => exact encode_decodeExtended b1

/-- What the decoder reads is the instruction at three bytes, and it takes as many of them as the first one asks for. -/
theorem decode_eq_ok {bytes rest : List Byte} {i : Instr} (h : decode bytes = .ok (i, rest)) :
    ∃ b0 b1 b2, i = decode3 b0 b1 b2 ∧ bytes = [b0, b1, b2].take (lengthOf b0) ++ rest := by
  cases bytes with
  | nil => cases h
  | cons b0 tail =>
    cases hc : primaryCell b0 <;> simp only [decode, hc] at h
    case op =>
      cases h
      exact ⟨b0, 0#8, 0#8, by simp [decode3, hc], by simp [lengthOf, hc]⟩
    case n8 | cb =>
      match tail, h with
      | b1 :: _, rfl => exact ⟨b0, b1, 0#8, by simp [decode3, hc], by simp [lengthOf, hc]⟩
    case nn16 =>
      match tail, h with
      | b1 :: b2 :: _, rfl => exact ⟨b0, b1, b2, by simp [decode3, hc], by simp [lengthOf, hc]⟩

/-- Settles O3: what is decoded is the instruction at three bytes, which encodes to those of them that belong to it. -/
theorem encodeOfDecode : Obligations.EncodeOfDecode := by
  intro bytes rest i hdecode
  obtain ⟨b0, b1, b2, rfl, rfl⟩ := decode_eq_ok hdecode
  obtain ⟨hwf, henc⟩ := encode_decode3 b0 b1 b2
  exact ⟨hwf, by rw [henc]⟩

theorem decode3_of_decode {b0 b1 b2 : Byte} {i : Instr} {rest : List Byte} (h : decode [b0, b1, b2] = .ok (i, rest)) :
    decode3 b0 b1 b2 = i := by
  cases hc : primaryCell b0 <;> simp only [decode, decode3, hc] at h ⊢ <;> cases h <;> rfl

end Sys2Proof

namespace Sys2Proof.Machine

/-! ### The tick around the decoded instruction -/

theorem State.fetched_of_decode {s : State} {i : Instr} {rest : List Byte}
    (h : decode [s.memRead s.pc, s.memRead (s.pc + 1#16), s.memRead (s.pc + 2#16)] = .ok (i, rest)) : s.fetched = i :=
  decode3_of_decode h

/-- Settles O46: a running tick is `exec` of the fetched instruction, after overlay removal, and the rest of the tick. -/
theorem stepRunsDecodedInstruction : Obligations.StepRunsDecodedInstruction := by
  intro s t i rest hrun hdecode hexec
  have hstep : step s = .next (t.finishTick s.atFetch.fetchedCost) := by
    rw [step_of_running hrun.fault hrun.halted hrun.stopped, show s.dropOverlay = s.atFetch from s.dropOverlay_eq,
      State.fetched_of_decode hdecode, hexec]
    rfl
  refine ⟨fun hf => ?_, fun hf => ?_⟩
  · rw [hstep, State.finishTick_running hf]
    rfl
  · obtain ⟨record, hrecord⟩ := Option.ne_none_iff_exists'.mp hf
    rw [hstep, State.finishTick_fault hrecord]

/-! ### Cycle costs -/

/-- The opcode is extended exactly where the first byte is the entry byte (R122). -/
theorem opcodeOfBytes_eq (b0 b1 : Byte) :
    opcodeOfBytes b0 b1 = if b0 = 0xCB#8 then .extended b1 else .primary b0 := by
  split
  next h => rw [h]; rfl
  next h =>
    have hcell := primaryCell_encodesAt b0
    unfold opcodeOfBytes
    generalize primaryCell b0 = cell at hcell ⊢
    cases hcell with
    | cb => exact absurd rfl h
    | _ => rfl

/-- The table's cost of the instruction at three bytes is that of their opcode (R131). -/
theorem instrCycles_decode3 (b0 b1 b2 : Byte) : instrCycles (decode3 b0 b1 b2) = tableCycles (opcodeOfBytes b0 b1) := by
  obtain ⟨-, henc⟩ := encode_decode3 b0 b1 b2
  unfold instrCycles
  rw [henc]
  unfold lengthOf
  cases hc : primaryCell b0 <;> simp [opcodeOfBytes, hc]

theorem State.fetchedCost_eq (s : State) :
    s.fetchedCost = (s.config.cycleOverrides.lookup
      (opcodeNumber (opcodeOfBytes (s.memRead s.pc) (s.memRead (s.pc + 1#16))))).getD (instrCycles s.fetched) := by
  unfold State.fetched
  rw [instrCycles_decode3]
  rfl

/-- A cost is the table's or an override's. -/
theorem cycleCost_bounds {c : Config} (hc : c.Admitted) {op : OpcodeValue}
    (ht : 4 ≤ tableCycles op ∧ tableCycles op ≤ 32) : 4 ≤ cycleCost c op ∧ cycleCost c op ≤ 32 := by
  unfold cycleCost
  cases hl : c.cycleOverrides.lookup (opcodeNumber op) with
  | none => exact ht
  | some v =>
    obtain ⟨l₁, l₂, hmem, -⟩ := List.lookup_eq_some_iff.mp hl
    exact hc (opcodeNumber op, v) (by simp [hmem])

theorem tableCycles_primary_bounds : ∀ b : Byte, b ≠ 0xCB#8 → b ∉ illegalOpcodes.map (·.2) →
    4 ≤ tableCycles (.primary b) ∧ tableCycles (.primary b) ≤ 32 := by
  decide

theorem tableCycles_extended_bounds (b : Byte) : 4 ≤ tableCycles (.extended b) ∧ tableCycles (.extended b) ≤ 32 := by
  unfold tableCycles
  dsimp only
  split <;> decide

/-- Settles O47: the cost is the override's or that of the decoded instruction, and the bounds hold of both. -/
theorem cycleCosts : Obligations.CycleCosts := by
  refine ⟨fun s => ⟨rfl, ?_⟩, fun s hnone => ?_, fun c b hc => ⟨fun hcb hlegal => ?_, ?_⟩⟩
  · rw [s.fetchedCost_eq, opcodeOfBytes_eq, apply_ite opcodeNumber]
    rfl
  · rw [s.fetchedCost_eq, hnone]
    rfl
  · exact cycleCost_bounds hc (tableCycles_primary_bounds b hcb hlegal)
  · exact cycleCost_bounds hc (tableCycles_extended_bounds b)

/-! ### The break flag -/

/-- A state with the break flag set to a value. -/
def State.withBreak (s : State) (b : Bool) : State := { s with breakNext := b }

/-- An operation chosen by a test hands the flag through where both of its branches do. -/
theorem ite_withBreak {p : Prop} [Decidable p] {b : Bool} {s t u v : State} (hs : u = s.withBreak b)
    (ht : v = t.withBreak b) : (if p then u else v) = (if p then s else t).withBreak b := by
  rw [hs, ht, apply_ite (State.withBreak · b)]

theorem State.bankControl_withBreak (s : State) (b : Bool) (a : Word) (v : Byte) :
    (s.withBreak b).bankControl a v = (s.bankControl a v).withBreak b := by
  have hh : (s.withBreak b).header = s.header := rfl
  unfold State.bankControl
  rw [hh]
  cases s.header.mbcMode with
  | none => rfl
  | simple => exact ite_withBreak rfl (ite_withBreak rfl (ite_withBreak rfl rfl))

theorem State.busStore_withBreak (s : State) (b : Bool) (a : Word) (v : Byte) :
    (s.withBreak b).busStore a v = (s.busStore a v).withBreak b :=
  ite_withBreak (s.bankControl_withBreak b a v) (ite_withBreak (ite_withBreak rfl rfl) rfl)

theorem State.foldHooks_withBreak (ks : List (Word × WriteHook)) (s : State) (b : Bool) :
    ks.foldl (fun t p => p.2.run t) (s.withBreak b) = (ks.foldl (fun t p => p.2.run t) s).withBreak b := by
  induction ks generalizing s with
  | nil => rfl
  | cons p rest ih =>
    have hrun : p.2.run (s.withBreak b) = (p.2.run s).withBreak b := by cases p.2; rfl
    rw [List.foldl_cons, hrun, ih, List.foldl_cons]

/-- A hooked write does not look at the break flag. -/
theorem State.memWrite_withBreak (s : State) (b : Bool) (a : Word) (v : Byte) :
    (s.withBreak b).memWrite a v = (s.memWrite a v).withBreak b := by
  unfold State.memWrite
  rw [State.busStore_withBreak]
  exact State.foldHooks_withBreak _ _ b

theorem State.memWrite16_withBreak (s : State) (b : Bool) (a v : Word) :
    (s.withBreak b).memWrite16 a v = (s.memWrite16 a v).withBreak b := by
  simp only [State.memWrite16, State.memWrite_withBreak]

theorem State.storeA_withBreak (s : State) (b : Bool) (addr : Word) (len : Nat) :
    (s.withBreak b).storeA addr len = (s.storeA addr len).withBreak b :=
  (s.skip len).memWrite_withBreak b addr s.a

theorem State.moveHl_withBreak (s : State) (b : Bool) (by' : Word) :
    (s.withBreak b).moveHl by' = (s.moveHl by').withBreak b := rfl

/-- Storing A at HL and moving HL. -/
theorem State.storeAMoveHl_withBreak (s : State) (b : Bool) (by' : Word) :
    ((s.withBreak b).storeA ((s.withBreak b).pair .hl) 1).moveHl by' =
      ((s.storeA (s.pair .hl) 1).moveHl by').withBreak b := by
  rw [State.storeA_withBreak, State.moveHl_withBreak]
  rfl

theorem State.setOperand_withBreak (s : State) (b : Bool) (o : Operand8) (v : Byte) :
    (s.withBreak b).setOperand o v = (s.setOperand o v).withBreak b := by
  cases o with
  | reg r => cases r <;> rfl
  | atHl => exact s.memWrite_withBreak b _ v

/-- Writing an operand and setting the flags, as INC, DEC and the rotates do. -/
theorem State.setOperandFlags_withBreak (s : State) (b : Bool) (o : Operand8) (v : Byte) (f : Flags) :
    { (s.withBreak b).setOperand o v with f := f } = { s.setOperand o v with f := f }.withBreak b :=
  congrArg (fun t : State => { t with f := f }) (s.setOperand_withBreak b o v)

theorem State.push16_withBreak (s : State) (b : Bool) (v : Word) :
    (s.withBreak b).push16 v = (s.push16 v).withBreak b :=
  State.memWrite16_withBreak { s with sp := s.sp - 2#16 } b (s.sp - 2#16) v

theorem State.callTo_withBreak (s : State) (b : Bool) (target : Word) :
    (s.withBreak b).callTo target = (s.callTo target).withBreak b :=
  congrArg (State.jumpTo · target) (s.push16_withBreak b s.pc)

/-- The answer of an instruction is the same whatever the break flag, and hands the flag through. -/
def InstrIgnoresBreak (i : Instr) : Prop :=
  ∀ (s t : State) (b : Bool), exec i s = .next t → exec i (s.withBreak b) = .next (t.withBreak b)

/-- The form every instruction has: its answer is a function of the state that hands the flag through. -/
theorem InstrIgnoresBreak.ofRun {i : Instr} {run : State → State} (hexec : ∀ s, exec i s = .next (run s))
    (hrun : ∀ s b, run (s.withBreak b) = (run s).withBreak b) : InstrIgnoresBreak i := by
  intro s t b h
  rw [hexec] at h ⊢
  cases h
  rw [hrun]

/-- An optional instruction: the stub hands the flag through. -/
theorem InstrIgnoresBreak.ofStubbed {i : Instr} {op : OpcodeValue} {run : State → State}
    (hexec : ∀ s, exec i s = .next (s.unlessStubbed op run))
    (hrun : ∀ s b, run (s.withBreak b) = (run s).withBreak b) : InstrIgnoresBreak i :=
  .ofRun hexec fun s b => ite_withBreak rfl (hrun s b)

theorem ignoresBreak_rotR (op : RotOp) (o : Operand8) : InstrIgnoresBreak (.rotR op o) :=
  .ofRun (exec_rotR op o) fun s b => (s.skip 2).setOperandFlags_withBreak b o _ _

theorem ignoresBreak_bitR (n : Index8) (o : Operand8) : InstrIgnoresBreak (.bitR n o) :=
  .ofRun (exec_bitR n o) fun _ _ => rfl

theorem ignoresBreak_resR (n : Index8) (o : Operand8) : InstrIgnoresBreak (.resR n o) :=
  .ofStubbed (exec_resR n o) fun s b => (s.skip 2).setOperand_withBreak b o _

theorem ignoresBreak_setR (n : Index8) (o : Operand8) : InstrIgnoresBreak (.setR n o) :=
  .ofStubbed (exec_setR n o) fun s b => (s.skip 2).setOperand_withBreak b o _

theorem ignoresBreak_decodeExtended (op2 : Byte) : InstrIgnoresBreak (decodeExtended op2) := by
  unfold decodeExtended
  split
  · exact ignoresBreak_rotR _ _
  · exact ignoresBreak_bitR _ _
  · exact ignoresBreak_resR _ _
  · exact ignoresBreak_setR _ _

theorem State.runExtended_withBreak (s : State) (b : Bool) (op2 : Byte) :
    (s.withBreak b).runExtended op2 = (s.runExtended op2).withBreak b := by
  have h := ignoresBreak_decodeExtended op2 s _ b (exec_decodeExtended op2 s)
  rw [exec_decodeExtended] at h
  injection h

theorem ignoresBreak_aluR (op : AluOp) (o : Operand8) : InstrIgnoresBreak (.aluR op o) := by
  by_cases h : op = .sbc
  · subst h
    exact .ofStubbed (exec_sbcR o) fun _ _ => rfl
  · exact .ofRun (exec_aluR op o h) fun _ _ => rfl

theorem ignoresBreak_aluN (op : AluOp) (n : Byte) : InstrIgnoresBreak (.aluN op n) := by
  by_cases h : op = .sbc
  · subst h
    exact .ofStubbed (exec_sbcN n) fun _ _ => rfl
  · exact .ofRun (exec_aluN op n h) fun _ _ => rfl

/-- No instruction looks at the break flag: the stores by the lemmas above, the others because they move CPU registers
only. -/
theorem ignoresBreak (i : Instr) : InstrIgnoresBreak i := by
  apply Instr.byFamily (Q := InstrIgnoresBreak)
  case rotR => exact ignoresBreak_rotR
  case bitR => exact ignoresBreak_bitR
  case resR => exact ignoresBreak_resR
  case setR => exact ignoresBreak_setR
  case aluR => exact ignoresBreak_aluR
  case aluN => exact ignoresBreak_aluN
  case incR => exact fun o => .ofRun (exec_incR o) fun s b => (s.skip 1).setOperandFlags_withBreak b o _ _
  case decR => exact fun o => .ofRun (exec_decR o) fun s b => (s.skip 1).setOperandFlags_withBreak b o _ _
  case ldHlR => exact fun src => .ofRun (exec_ldHlR src) fun s b => (s.skip 1).memWrite_withBreak b _ _
  case ldAtBcA | ldAtDeA | ldAtCA => exact .ofRun (fun _ => rfl) fun s b => s.storeA_withBreak b _ 1
  case ldhAtNA => exact fun n => .ofRun (fun _ => rfl) fun s b => s.storeA_withBreak b (pageAddr n) 2
  case ldAtNnA => exact fun nn => .ofRun (fun _ => rfl) fun s b => s.storeA_withBreak b nn 3
  case ldAtHlIncA => exact .ofRun (fun _ => rfl) fun s b => s.storeAMoveHl_withBreak b 1#16
  case ldAtHlDecA => exact .ofRun (fun _ => rfl) fun s b => s.storeAMoveHl_withBreak b (-1#16)
  case ldAAtHlInc => exact .ofRun (fun _ => rfl) fun s b => (s.loadA (s.pair .hl) 1).moveHl_withBreak b 1#16
  case ldAAtHlDec => exact .ofRun (fun _ => rfl) fun s b => (s.loadA (s.pair .hl) 1).moveHl_withBreak b (-1#16)
  case ldAtHlN => exact fun n => .ofRun (fun _ => rfl) fun s b => (s.skip 2).memWrite_withBreak b (s.pair .hl) n
  case ldAtNnSp => exact fun nn => .ofRun (fun _ => rfl) fun s b => (s.skip 3).memWrite16_withBreak b nn s.sp
  case pushPair => exact fun p => .ofRun (exec_pushPair p) fun s b => (s.skip 1).push16_withBreak b _
  case callNn => exact fun nn => .ofRun (fun _ => rfl) fun s b => (s.skip 3).callTo_withBreak b nn
  case rstAt => exact fun y => .ofRun (exec_rstAt y) fun s b => (s.skip 1).callTo_withBreak b _
  case callCc =>
    exact fun k nn => .ofRun (exec_callCc k nn) fun s b => ite_withBreak ((s.skip 3).callTo_withBreak b nn) rfl
  case jpCc => exact fun k nn => .ofRun (exec_jpCc k nn) fun _ _ => ite_withBreak rfl rfl
  case jrCc => exact fun k e => .ofRun (exec_jrCc k e) fun _ _ => ite_withBreak rfl rfl
  case retCc => exact fun k => .ofRun (exec_retCc k) fun _ _ => ite_withBreak rfl rfl
  case prefixCb => exact .ofRun (fun _ => rfl) fun s b => s.runExtended_withBreak b _
  case illegal => exact fun p hp => .ofRun (exec_illegal p hp) fun _ _ => rfl
  case ldRR => exact fun dst src => .ofRun (exec_ldRR dst src) fun _ _ => by cases dst <;> rfl
  case ldRN => exact fun dst n => .ofRun (exec_ldRN dst n) fun _ _ => by cases dst <;> rfl
  case ldRHl => exact fun dst => .ofRun (exec_ldRHl dst) fun _ _ => by cases dst <;> rfl
  case ldPairNn => exact fun p nn => .ofRun (exec_ldPairNn p nn) fun _ _ => by cases p <;> rfl
  case addHlPair => exact fun p => .ofRun (exec_addHlPair p) fun _ _ => rfl
  case incPair => exact fun p => .ofRun (exec_incPair p) fun _ _ => by cases p <;> rfl
  case decPair => exact fun p => .ofRun (exec_decPair p) fun _ _ => by cases p <;> rfl
  case popPair => exact fun p => .ofRun (exec_popPair p) fun _ _ => by cases p <;> rfl
  case jrDisp | jpNn | addSpDisp | ldhAAtN | ldHlSpDisp | ldAAtNn => exact fun _ => .ofRun (fun _ => rfl) fun _ _ => rfl
  all_goals exact .ofRun (fun _ => rfl) fun _ _ => rfl

/-! ### The tick and the break flag -/

/-- A tick's answer but for the flag and the reported result. -/
def State.SameButBreak (s t : State) : Prop := t = { s with breakNext := t.breakNext, tickResult := t.tickResult }

/-- The rest of a tick clears the flag before anything runs, and after a fault nothing runs. -/
theorem State.finishTick_withBreak (s : State) (b : Bool) (cost : Nat) :
    (s.finishTick cost).SameButBreak ((s.withBreak b).finishTick cost) := by
  cases h : s.fault with
  | some record =>
    rw [State.finishTick_fault h, State.finishTick_fault (s := s.withBreak b) h]
    rfl
  | none =>
    rw [State.finishTick_running h, State.finishTick_running (s := s.withBreak b) h]
    rfl

theorem State.dropOverlay_withBreak (s : State) (b : Bool) :
    (s.withBreak b).dropOverlay = s.dropOverlay.withBreak b := by
  rw [State.dropOverlay_eq, State.dropOverlay_eq]
  rfl

/-- A tick does the same whatever the break flag. -/
theorem step_withBreak {s t : State} (h : step s = .next t) (b : Bool) :
    ∃ u, step (s.withBreak b) = .next u ∧ t.SameButBreak u := by
  rcases step_cases h with ⟨hw, rfl⟩ | ⟨hf, hh, hp, u, -, hexec, rfl⟩
  · exact ⟨_, step_of_waiting (s := s.withBreak b) hw, s.finishTick_withBreak b 0⟩
  · refine ⟨_, ?_, u.finishTick_withBreak b _⟩
    rw [step_of_running (s := s.withBreak b) hf hh hp, State.dropOverlay_withBreak]
    exact congrArg (finishRun _) (ignoresBreak _ _ _ b hexec)

@[simp] theorem State.executeInterrupts_fault (s : State) : s.executeInterrupts.1.fault = s.fault := by
  cases h : s.serviceable with
  | none => rw [State.executeInterrupts_none h]
  | some k => simp [State.executeInterrupts_some h, State.takeInterrupt_eq]

@[simp] theorem State.executeInterrupts_breakNext (s : State) : s.executeInterrupts.1.breakNext = s.breakNext := by
  cases h : s.serviceable with
  | none => rw [State.executeInterrupts_none h]
  | some k => simp [State.executeInterrupts_some h, State.takeInterrupt_eq]

@[simp] theorem State.writeAll_breakNext (s : State) (ws : List (Word × Byte)) :
    (s.writeAll ws).breakNext = s.breakNext := by
  induction ws generalizing s with
  | nil => rfl
  | cons p rest ih => exact (ih _).trans (s.memWrite_breakNext p.1 p.2)

/-- What a tick that found the flag `b` has done with it: cleared and reported, or left alone by a fault. -/
def State.AnsweredBreak (t : State) (b : Bool) : Prop :=
  (t.fault = none → t.breakNext = false ∧ t.tickResult = if b then .stopRequested else .running) ∧
    (t.fault ≠ none → t.breakNext = b ∧ t.tickResult = .faulted)

theorem State.answeredBreak_finishTick (s : State) (cost : Nat) : (s.finishTick cost).AnsweredBreak s.breakNext := by
  cases h : s.fault with
  | some record =>
    rw [State.finishTick_fault h]
    exact ⟨fun hn => absurd (h.symm.trans hn) nofun, fun _ => ⟨rfl, rfl⟩⟩
  | none =>
    rw [State.finishTick_running h]
    exact ⟨fun _ => ⟨by simp, rfl⟩, fun hn => absurd (by simp [h]) hn⟩

theorem step_answeredBreak {s t : State} (h : step s = .next t) : t.AnsweredBreak s.breakNext := by
  rcases step_cases h with ⟨-, rfl⟩ | ⟨-, -, -, u, he, -, rfl⟩
  · exact s.answeredBreak_finishTick 0
  · have hu : u.breakNext = s.breakNext := by rw [he.bus, State.dropOverlay_eq]; simp
    exact hu ▸ u.answeredBreak_finishTick _

/-- Settles O49: what a tick does with the flag, and that it does all else alike whatever the flag. -/
theorem breakFlag : Obligations.BreakFlag := by
  intro s t b hstep
  obtain ⟨hruns, hfaults⟩ := step_answeredBreak hstep
  exact ⟨hruns, hfaults, step_withBreak hstep b⟩

end Sys2Proof.Machine
end

section
/-! PROOFS of the family 40_load8.md: the loads of a register (O6), the stores of a byte (O7), the loads of A (O8) and the
accesses that move HL afterwards (O9). Each meaning is one of the shared operations of Machine/Load8.lean; what an operation
does is said here once, in the words of the rules. -/

namespace Sys2Proof.Machine

/-! ### Encodings and costs of the register rows -/

theorem encode_cost_ldRR (dst src : Reg8) :
    encode (.ldRR dst src) = [BitVec.ofNat 8 (0x40 + 8 * dst.field + src.field)] ∧ instrCycles (.ldRR dst src) = 4 := by
  cases dst <;> cases src <;> exact ⟨rfl, rfl⟩

theorem encode_cost_ldRN (dst : Reg8) (n : Byte) :
    encode (.ldRN dst n) = [BitVec.ofNat 8 (0x06 + 8 * dst.field), n] ∧ instrCycles (.ldRN dst n) = 8 := by
  cases dst <;> exact ⟨rfl, rfl⟩

theorem encode_cost_ldRHl (dst : Reg8) :
    encode (.ldRHl dst) = [BitVec.ofNat 8 (0x46 + 8 * dst.field)] ∧ instrCycles (.ldRHl dst) = 8 := by
  cases dst <;> exact ⟨rfl, rfl⟩

theorem encode_cost_ldHlR (src : Reg8) :
    encode (.ldHlR src) = [BitVec.ofNat 8 (0x70 + src.field)] ∧ instrCycles (.ldHlR src) = 8 := by
  cases src <;> exact ⟨rfl, rfl⟩

/-! ### The shared operations -/

/-- An address of the short-address page, as the sum that R161 to R164 write: it does not carry out of the page. -/
theorem pageAddr_eq_ofNat (n : Byte) : pageAddr n = BitVec.ofNat 16 (0xFF00 + n.toNat) := by
  apply BitVec.eq_of_toNat_eq
  simp [pageAddr, zext16]

/-- A hooked write leaves every register pair alone. -/
@[simp] theorem State.pair_memWrite (s : State) (p : Pair) (a : Word) (v : Byte) : (s.memWrite a v).pair p = s.pair p := by
  cases p <;> simp [State.pair]

@[simp] theorem State.pair_storeA (s : State) (p : Pair) (addr : Word) (len : Nat) :
    (s.storeA addr len).pair p = s.pair p := by
  simp [State.storeA]

/-- Loading A leaves every register pair alone: A is no half of one. -/
@[simp] theorem State.pair_loadA (s : State) (p : Pair) (addr : Word) (len : Nat) :
    (s.loadA addr len).pair p = s.pair p := by
  cases p <;> rfl

/-- A store of A through HL and the move of HL after it: the store leaves HL alone, so HL moves from its old value. -/
theorem State.moveHl_storeA (s : State) (by' : Word) (len : Nat) :
    (s.storeA (s.pair .hl) len).moveHl by' =
      ((s.skip len).memWrite (s.pair .hl) s.a).setPair .hl (s.pair .hl + by') := by
  rw [State.moveHl, State.pair_storeA]
  rfl

/-- A load of A through HL and the move of HL after it: A is no half of HL, so HL moves from its old value. -/
theorem State.moveHl_loadA (s : State) (by' : Word) (len : Nat) :
    (s.loadA (s.pair .hl) len).moveHl by' =
      { s.skip len with a := s.memRead (s.pair .hl) }.setPair .hl (s.pair .hl + by') := by
  rw [State.moveHl, State.pair_loadA]
  rfl

/-! ### The statements -/

/-- Settles O6: the rows of R150 to R152, each over the registers its opcode names. -/
theorem loadRegister : Obligations.LoadRegister := by
  refine ⟨fun dst src s => ?_, fun dst n s => ?_, fun dst s => ?_⟩
  · obtain ⟨hbytes, hcost⟩ := encode_cost_ldRR dst src
    exact ⟨hbytes, hcost, exec_ldRR dst src s⟩
  · obtain ⟨hbytes, hcost⟩ := encode_cost_ldRN dst n
    exact ⟨hbytes, hcost, exec_ldRN dst n s⟩
  · obtain ⟨hbytes, hcost⟩ := encode_cost_ldRHl dst
    exact ⟨hbytes, hcost, exec_ldRHl dst s⟩

/-- Settles O7: every form is one hooked write after the fetch; only the page forms write their address in another way. -/
theorem storeByte : Obligations.StoreByte := by
  refine ⟨fun src s => ?ldHlR, fun n s => ?ldAtHlN, fun s => ?ldAtBcA, fun s => ?ldAtDeA, fun nn s => ?ldAtNnA,
    fun n s => ?ldhAtNA, fun s => ?ldAtCA⟩
  case ldHlR =>
    obtain ⟨hbytes, hcost⟩ := encode_cost_ldHlR src
    exact ⟨hbytes, hcost, exec_ldHlR src s⟩
  case ldhAtNA | ldAtCA =>
    rw [← pageAddr_eq_ofNat]
    exact ⟨rfl, rfl, rfl⟩
  all_goals exact ⟨rfl, rfl, rfl⟩

/-- Settles O8: every form is `State.loadA`; only the page forms write their address in another way. -/
theorem loadAccumulator : Obligations.LoadAccumulator := by
  refine ⟨fun s => ?ldAAtBc, fun s => ?ldAAtDe, fun nn s => ?ldAAtNn, fun n s => ?ldhAAtN, fun s => ?ldAAtC⟩
  case ldhAAtN | ldAAtC =>
    rw [← pageAddr_eq_ofNat]
    exact ⟨rfl, rfl, rfl⟩
  all_goals exact ⟨rfl, rfl, rfl⟩

/-- Settles O9: the access leaves HL alone, so HL moves from its old value; down by one is up by -1, modulo 65536. -/
theorem postIncrementAndDecrement : Obligations.PostIncrementAndDecrement := by
  intro s hl t
  have hdown : hl - 1#16 = hl + -1#16 := BitVec.sub_eq_add_neg hl 1#16
  rw [hdown]
  refine ⟨⟨rfl, rfl, ?_⟩, ⟨rfl, rfl, ?_⟩, ⟨rfl, rfl, ?_⟩, rfl, rfl, ?_⟩
  · exact congrArg Host.Outcome.next (s.moveHl_storeA 1#16 1)
  · exact congrArg Host.Outcome.next (s.moveHl_loadA 1#16 1)
  · exact congrArg Host.Outcome.next (s.moveHl_storeA (-1#16) 1)
  · exact congrArg Host.Outcome.next (s.moveHl_loadA (-1#16) 1)

end Sys2Proof.Machine
end

section
/-! PROOFS of the family 41_load16.md: the 16-bit loads (O10). Each meaning is one shared operation of Machine/Load16.lean,
whose defining equation is the rule; the fetch of its three bytes or one is `State.skip`. -/

namespace Sys2Proof.Machine

theorem encode_cost_ldPairNn (p : Pair) (nn : Word) :
    encode (.ldPairNn p nn) = [BitVec.ofNat 8 (0x01 + 16 * p.field), loByte nn, hiByte nn] ∧
      instrCycles (.ldPairNn p nn) = 12 := by
  cases p <;> exact ⟨rfl, rfl⟩

/-- `State.storeSp` in the words of R191: the low byte of SP at `nn`, and after it the high byte at the next address. -/
theorem State.storeSp_eq_memWrite (s : State) (nn : Word) :
    s.storeSp nn = ((s.skip 3).memWrite nn (loByte s.sp)).memWrite (nn + 1#16) (hiByte s.sp) := rfl

/-- Settles O10: the row of R190 over the four pairs, then the store of SP as two hooked writes, then SP from HL. -/
theorem sixteenBitLoads : Obligations.SixteenBitLoads := by
  refine ⟨fun p nn s => ?ldPairNn, fun nn s => ?ldAtNnSp, fun s => ?ldSpHl⟩
  case ldPairNn =>
    obtain ⟨hbytes, hcost⟩ := encode_cost_ldPairNn p nn
    exact ⟨hbytes, hcost, exec_ldPairNn p nn s⟩
  case ldAtNnSp => exact ⟨rfl, rfl, congrArg Host.Outcome.next (s.storeSp_eq_memWrite nn)⟩
  case ldSpHl => exact ⟨rfl, rfl, rfl⟩

end Sys2Proof.Machine
end

section
/-! PROOFS of the family 42_alu8.md: ADD and ADC (O12). The rows of R200 are said once for all eight operations; what is
particular to O12 is that ADD and ADC are one sum, without and with the carry. -/

namespace Sys2Proof.Machine

/-! ### The rows of R200 -/

theorem encode_cost_aluR (op : AluOp) (o : Operand8) :
    encode (.aluR op o) = [BitVec.ofNat 8 (0x80 + 8 * op.field + o.field)] ∧
      instrCycles (.aluR op o) = if o = .atHl then 8 else 4 := by
  cases o with
  | reg r => cases op <;> cases r <;> exact ⟨rfl, rfl⟩
  | atHl => cases op <;> exact ⟨rfl, rfl⟩

theorem encode_cost_aluN (op : AluOp) (n : Byte) :
    encode (.aluN op n) = [BitVec.ofNat 8 (0xC6 + 8 * op.field), n] ∧ instrCycles (.aluN op n) = 8 := by
  cases op <;> exact ⟨rfl, rfl⟩

/-- The register and `(HL)` forms of an operation that has no stub. -/
theorem aluR_row (op : AluOp) (h : op ≠ .sbc) (o : Operand8) (s : State) :
    encode (.aluR op o) = [BitVec.ofNat 8 (0x80 + 8 * op.field + o.field)] ∧
      instrCycles (.aluR op o) = (if o = .atHl then 8 else 4) ∧
      exec (.aluR op o) s = .next (s.aluWith op (s.operand o) 1) := by
  obtain ⟨hbytes, hcost⟩ := encode_cost_aluR op o
  exact ⟨hbytes, hcost, exec_aluR op o h s⟩

/-- The immediate form of an operation that has no stub. -/
theorem aluN_row (op : AluOp) (h : op ≠ .sbc) (n : Byte) (s : State) :
    encode (.aluN op n) = [BitVec.ofNat 8 (0xC6 + 8 * op.field), n] ∧ instrCycles (.aluN op n) = 8 ∧
      exec (.aluN op n) s = .next (s.aluWith op n 2) := by
  obtain ⟨hbytes, hcost⟩ := encode_cost_aluN op n
  exact ⟨hbytes, hcost, exec_aluN op n h s⟩

/-! ### The operation on A -/

/-- An operation of R200 changes PC, A and the flags only. -/
theorem State.aluWith_eq_withResult {s : State} {op : AluOp} {x : Byte} {r : Computed}
    (h : aluCompute op s.a x s.f = r) (len : Nat) :
    s.aluWith op x len = s.withResult len r.value r.flags.z r.flags.n r.flags.h r.flags.c := by
  subst h
  rfl

/-! ### The statement -/

/-- Settles O12: both operations are the sum `add8`, ADD without a carry and ADC with the one in F. -/
theorem addAndAdc : Obligations.AddAndAdc := by
  intro o n s add
  have hadd (x : Byte) (len : Nat) : s.aluWith .add x len = add len x 0 :=
    State.aluWith_eq_withResult (r := add8 s.a x false) rfl len
  have hadc (x : Byte) (len : Nat) : s.aluWith .adc x len = add len x (bit01 s.f.c) :=
    State.aluWith_eq_withResult (r := add8 s.a x s.f.c) rfl len
  simp only [← hadd, ← hadc]
  exact ⟨aluR_row .add nofun o s, aluN_row .add nofun n s, aluR_row .adc nofun o s, aluN_row .adc nofun n s⟩

end Sys2Proof.Machine
end

section
/-! PROOFS of the family 44_stack.md: PUSH and POP (O19) and their round trip (O20). The round trip has two halves: a word
stored where both its bytes keep reads back as it was, and a POP of the value that the pair already holds is the fetch and
the move of SP alone. -/

namespace Sys2Proof.Machine

/-! ### A word reads back where both its bytes keep -/

/-- Only a bank command, below 0x8000, can enable or disable external RAM (R74). -/
theorem State.ramEnabled_memWrite {s : State} (hk : s.hooks = HookRegistry.atReset) {a : Word} (h : 0x8000 ≤ a.toNat)
    (v : Byte) : (s.memWrite a v).ramEnabled = s.ramEnabled := by
  by_cases hext : 0xA000 ≤ a.toNat ∧ a.toNat ≤ 0xBFFF
  · rw [State.memWrite_extRam hk hext, State.extRamWrite, apply_ite State.ramEnabled]
    exact ite_self _
  by_cases hly : a = lyAddr
  · subst hly
    rw [State.memWrite_ly hk]
    rfl
  · rw [State.memWrite_raw hk h hext hly, State.rawWrite_ramEnabled]

theorem State.Keeps.toNat_ge {s : State} {a : Word} (h : s.Keeps a) : 0x8000 ≤ a.toNat := by
  rcases h with hvideo | hext | hwork <;> omega

/-- A store above the bank commands leaves the storage of R240 what it was. -/
theorem State.Keeps.memWrite {s : State} (hk : s.hooks = HookRegistry.atReset) {a b : Word} (ha : 0x8000 ≤ a.toNat)
    (hb : s.Keeps b) (v : Byte) : (s.memWrite a v).Keeps b := by
  have hon : (s.memWrite a v).extRamOn = s.extRamOn := by
    rw [State.extRamOn, State.ramEnabled_memWrite hk ha, State.memWrite_header, State.extRamOn]
  rwa [State.Keeps, hon]

/-- The two bytes of a word never share a cell: an echo is 0x2000 away (R63). -/
theorem echoIndex_ne_echoIndex_add_one (a : Word) : echoIndex (a + 1) ≠ echoIndex a := by
  rw [Ne, echoIndex_eq_iff]
  bv_omega

theorem State.memRead16_memWrite16_of_keeps {s : State} (hk : s.hooks = HookRegistry.atReset) {a : Word}
    (hlo : s.Keeps a) (hhi : s.Keeps (a + 1)) (v : Word) : (s.memWrite16 a v).memRead16 a = v := by
  have hk' : (s.memWrite a (loByte v)).hooks = HookRegistry.atReset := (s.memWrite_hooks a _).trans hk
  have hhi' : (s.memWrite a (loByte v)).Keeps (a + 1) := hhi.memWrite hk hlo.toNat_ge _
  have hreadHi : (s.memWrite16 a v).memRead (a + 1) = hiByte v := by
    rw [State.memWrite16, State.memRead_memWrite_of_keeps hk' hhi', if_pos rfl]
  have hreadLo : (s.memWrite16 a v).memRead a = loByte v := by
    rw [State.memWrite16, State.memRead_memWrite_of_keeps hk' hhi', if_neg (echoIndex_ne_echoIndex_add_one a).symm,
      State.memRead_memWrite_of_keeps hk hlo, if_pos rfl]
  rw [State.memRead16, hreadHi, hreadLo, wordOf_hiByte_loByte]

/-! ### PUSH -/

/-- The address of the high byte that a push stores. -/
theorem sub_two_add_one (sp : Word) : sp - 2#16 + 1#16 = sp - 1#16 := by
  bv_omega

/-- `State.pushPair` in the words of R241: SP down by two, then the low byte at the new SP and the high byte above it. -/
theorem State.pushPair_eq_memWrite (s : State) (p : StackPair) :
    s.pushPair p =
      ({ s with pc := s.pc + 1#16, sp := s.sp - 2#16 }.memWrite (s.sp - 2#16) (loByte (s.stackPair p))).memWrite
        (s.sp - 1#16) (hiByte (s.stackPair p)) := by
  rw [← sub_two_add_one, State.pushPair]
  rfl

@[simp] theorem State.pushPair_sp (s : State) (p : StackPair) : (s.pushPair p).sp = s.sp - 2#16 := by
  simp [State.pushPair, State.push16]

@[simp] theorem State.pushPair_pc (s : State) (p : StackPair) : (s.pushPair p).pc = s.pc + 1#16 := by
  simp [State.pushPair, State.push16]

@[simp] theorem State.pushPair_f (s : State) (p : StackPair) : (s.pushPair p).f = s.f := by
  simp [State.pushPair, State.push16]

@[simp] theorem State.reg_pushPair (s : State) (p : StackPair) (r : Reg8) : (s.pushPair p).reg r = s.reg r := by
  cases r <;> simp [State.pushPair, State.push16, State.reg]

@[simp] theorem State.stackPair_pushPair (s : State) (p q : StackPair) : (s.pushPair p).stackPair q = s.stackPair q := by
  cases q <;> simp [State.pushPair, State.push16, State.stackPair]

/-- What the next POP reads: the pushed pair, where both bytes land in storage. -/
theorem State.popValue_pushPair {s : State} (hk : s.hooks = HookRegistry.atReset) (hlo : s.Keeps (s.sp - 2#16))
    (hhi : s.Keeps (s.sp - 1#16)) (p : StackPair) : (s.pushPair p).popValue = s.stackPair p := by
  rw [← sub_two_add_one] at hhi
  rw [State.popValue, State.pushPair_sp]
  exact State.memRead16_memWrite16_of_keeps (s := { s.skip 1 with sp := s.sp - 2#16 }) hk hlo hhi (s.stackPair p)

/-! ### POP -/

/-- `State.popPair` in the words of R242. -/
theorem State.popPair_eq_setStackPair (s : State) (p : StackPair) :
    s.popPair p =
      { s with pc := s.pc + 1#16, sp := s.sp + 2#16 }.setStackPair p
        (wordOf (s.memRead (s.sp + 1#16)) (s.memRead s.sp)) := rfl

/-- `State.popPair` on AF in the words of R243: the reading of F from a byte drops its low nibble. -/
theorem State.popPair_af (s : State) :
    s.popPair .af =
      { s with
        pc := s.pc + 1#16
        sp := s.sp + 2#16
        a := s.memRead (s.sp + 1#16)
        f := Flags.ofByte (s.memRead s.sp) } := by
  simp [State.popPair_eq_setStackPair, State.setStackPair]

/-- Writing back the value a pair holds changes nothing: on AF because the low nibble that is dropped is already zero. -/
@[simp] theorem State.setStackPair_stackPair (s : State) (p : StackPair) : s.setStackPair p (s.stackPair p) = s := by
  cases p <;> simp [State.setStackPair, State.stackPair]

/-- A POP of the value that the pair already holds only fetches and moves SP. -/
theorem State.popPair_of_popValue_eq {s : State} {p : StackPair} (h : s.popValue = s.stackPair p) :
    s.popPair p = (s.skip 1).dropWord := by
  rw [State.popPair, h]
  exact State.setStackPair_stackPair (s.skip 1).dropWord p

/-! ### The statements -/

theorem encode_cost_pushPair (p : StackPair) :
    encode (.pushPair p) = [BitVec.ofNat 8 (0xC5 + 16 * p.field)] ∧ instrCycles (.pushPair p) = 16 := by
  cases p <;> exact ⟨rfl, rfl⟩

theorem encode_cost_popPair (p : StackPair) :
    encode (.popPair p) = [BitVec.ofNat 8 (0xC1 + 16 * p.field)] ∧ instrCycles (.popPair p) = 12 := by
  cases p <;> exact ⟨rfl, rfl⟩

/-- Settles O20: the PUSH leaves every register alone and what the POP reads is the pushed pair, so the POP writes the pair's
own value back and moves SP to where it was. -/
theorem pushPopRoundTrip : Obligations.PushPopRoundTrip := by
  intro p s hk hlo hhi
  have hread : (s.pushPair p).popValue = (s.pushPair p).stackPair p := by
    rw [State.popValue_pushPair hk hlo hhi, State.stackPair_pushPair]
  have hpc : (s.pushPair p).pc + 1#16 = s.pc + 2#16 := by rw [State.pushPair_pc]; bv_omega
  have hsp : (s.pushPair p).sp + 2#16 = s.sp := by rw [State.pushPair_sp, BitVec.sub_add_cancel]
  have hpop : (s.pushPair p).popPair p = { s.pushPair p with pc := s.pc + 2#16, sp := s.sp } := by
    rw [State.popPair_of_popValue_eq hread, ← hpc, ← hsp]
    rfl
  refine ⟨s.pushPair p, (s.pushPair p).popPair p, exec_pushPair p s, exec_popPair p _, s.pushPair_sp p, hpop,
    fun r => ?_, ?_⟩
  · rw [hpop]
    exact s.reg_pushPair p r
  · rw [hpop]
    exact s.pushPair_f p

/-- Settles O19: a row of R241 and one of R242, each over the four pairs, and the row of R242 on AF in the words of R243. -/
theorem pushAndPop : Obligations.PushAndPop := by
  refine ⟨fun p s => ?push, fun p s => ?pop, fun s => ?popAf⟩
  case push =>
    obtain ⟨hbytes, hcost⟩ := encode_cost_pushPair p
    exact ⟨hbytes, hcost, (exec_pushPair p s).trans (congrArg Host.Outcome.next (s.pushPair_eq_memWrite p))⟩
  case pop =>
    obtain ⟨hbytes, hcost⟩ := encode_cost_popPair p
    exact ⟨hbytes, hcost, (exec_popPair p s).trans (congrArg Host.Outcome.next (s.popPair_eq_setStackPair p))⟩
  case popAf => exact (exec_popPair .af s).trans (congrArg Host.Outcome.next s.popPair_af)

end Sys2Proof.Machine
end

section
/-! PROOFS of the family 45_jump_call.md: JP (O21), JR (O22), CALL (O23), the returns (O24) and RST (O25). Every meaning is
the fetch and then one of the operations of Machine/Jump.lean. A jump or a return overwrites the PC that the fetch left, so
the fetch shows only where a condition fails and in the word that a call pushes. -/

namespace Sys2Proof.Machine

/-! ### Encodings and costs of the rows -/

theorem encode_cost_jpCc (k : Cond) (nn : Word) :
    encode (.jpCc k nn) = [BitVec.ofNat 8 (0xC2 + 8 * k.field), loByte nn, hiByte nn] ∧ instrCycles (.jpCc k nn) = 12 := by
  cases k <;> exact ⟨rfl, rfl⟩

theorem encode_cost_jrCc (k : Cond) (e : Byte) :
    encode (.jrCc k e) = [BitVec.ofNat 8 (0x20 + 8 * k.field), e] ∧ instrCycles (.jrCc k e) = 8 := by
  cases k <;> exact ⟨rfl, rfl⟩

theorem encode_cost_callCc (k : Cond) (nn : Word) :
    encode (.callCc k nn) = [BitVec.ofNat 8 (0xC4 + 8 * k.field), loByte nn, hiByte nn] ∧
      instrCycles (.callCc k nn) = 12 := by
  cases k <;> exact ⟨rfl, rfl⟩

theorem encode_cost_retCc (k : Cond) :
    encode (.retCc k) = [BitVec.ofNat 8 (0xC0 + 8 * k.field)] ∧ instrCycles (.retCc k) = 8 := by
  cases k <;> exact ⟨rfl, rfl⟩

theorem encode_cost_rstAt (y : Index8) :
    encode (.rstAt y) = [BitVec.ofNat 8 (0xC7 + 8 * y.toNat)] ∧ instrCycles (.rstAt y) = 32 := by
  cases y <;> exact ⟨rfl, rfl⟩

/-! ### The shared operations after the fetch -/

/-- A jump under a condition chooses between two values of PC and touches nothing else. -/
theorem State.jumpIf_skip (s : State) (n : Nat) (k : Cond) (target : Word) :
    (s.skip n).jumpIf k target =
      { s with pc := if condHolds k s.f then target else s.pc + BitVec.ofNat 16 n } := by
  rw [State.jumpIf, State.skip_f]
  split <;> rfl

/-- The target of a relative jump as one signed sum, reduced modulo 65536 once. -/
theorem State.relTarget_eq_ofInt (s : State) (e : Byte) :
    s.relTarget e = BitVec.ofInt 16 (s.pc.toNat + 2 + e.toInt) := by
  have hsext : sext16 e = BitVec.ofInt 16 e.toInt := rfl
  simp [State.relTarget, hsext, BitVec.ofInt_add]

/-- The hooked write neither reads nor changes PC, so PC can be set before it or after it. -/
theorem State.memWrite16_withPc (s : State) (pc a v : Word) :
    { s with pc := pc }.memWrite16 a v = { s.memWrite16 a v with pc := pc } :=
  calc { s with pc := pc }.memWrite16 a v
    _ = (s.memWrite16 a v).withCpuOf { s with pc := pc } := State.memWrite16_withCpuOf s { s with pc := pc } a v
    _ = { (s.memWrite16 a v).withCpuOf s with pc := pc } := rfl
    _ = { s.memWrite16 a v with pc := pc } := by rw [← State.memWrite16_withCpuOf, State.withCpuOf_self]

theorem State.push16_withPc (s : State) (pc v : Word) :
    { s with pc := pc }.push16 v = { s.push16 v with pc := pc } :=
  State.memWrite16_withPc { s with sp := s.sp - 2#16 } pc (s.sp - 2#16) v

/-- `State.push16` as the two hooked writes of R240. -/
theorem State.push16_eq_memWrite (s : State) (v : Word) :
    s.push16 v =
      ({ s with sp := s.sp - 2#16 }.memWrite (s.sp - 2#16) (loByte v)).memWrite (s.sp - 1#16) (hiByte v) := by
  rw [← sub_two_add_one]
  rfl

/-- A call after the fetch, in the words of R256 and R261: the address after the instruction is pushed, PC goes to the
target. -/
theorem State.callTo_skip (s : State) (n : Nat) (target : Word) :
    (s.skip n).callTo target =
      { ({ s with sp := s.sp - 2#16 }.memWrite (s.sp - 2#16) (loByte (s.pc + BitVec.ofNat 16 n))).memWrite (s.sp - 1#16)
          (hiByte (s.pc + BitVec.ofNat 16 n)) with
        pc := target } := by
  have hpush : (s.skip n).push16 (s.skip n).pc =
      { s.push16 (s.pc + BitVec.ofNat 16 n) with pc := s.pc + BitVec.ofNat 16 n } := s.push16_withPc _ _
  rw [State.callTo, hpush, State.push16_eq_memWrite]
  rfl

/-- A call under a condition: where it fails, the stack and SP stay and only the fetch is left. -/
theorem State.callIf_skip (s : State) (n : Nat) (k : Cond) (target : Word) :
    (s.skip n).callIf k target = if condHolds k s.f then (s.skip n).callTo target else s.skip n := by
  rw [State.callIf, State.skip_f]

/-- A return after the fetch, in the words of R258. -/
theorem State.returnTo_skip (s : State) (n : Nat) :
    (s.skip n).returnTo =
      { s with pc := wordOf (s.memRead (s.sp + 1#16)) (s.memRead s.sp), sp := s.sp + 2#16 } := rfl

/-- A return under a condition: where it fails, SP stays and only the fetch is left. -/
theorem State.returnIf_skip (s : State) (n : Nat) (k : Cond) :
    (s.skip n).returnIf k = if condHolds k s.f then (s.skip n).returnTo else s.skip n := by
  rw [State.returnIf, State.skip_f]

/-- The return from interrupt is the return with IME set (R260). -/
theorem State.returnFromInterrupt_skip (s : State) (n : Nat) :
    (s.skip n).returnFromInterrupt = { (s.skip n).returnTo with ime := true } := rfl

/-! ### The statements -/

/-- Settles O22: the target is `State.relTarget`, a sum of words, which the statement writes as one signed sum. -/
theorem relativeJumps : Obligations.RelativeJumps := by
  intro k e s target
  have htarget : s.relTarget e = target := s.relTarget_eq_ofInt e
  obtain ⟨hbytes, hcost⟩ := encode_cost_jrCc k e
  rw [← htarget]
  exact ⟨⟨rfl, rfl, rfl⟩, hbytes, hcost,
    (exec_jrCc k e s).trans (congrArg Host.Outcome.next (s.jumpIf_skip 2 k (s.relTarget e)))⟩

/-- Settles O23: a taken call of either form is the one operation `State.callTo` after three bytes. -/
theorem calls : Obligations.Calls := by
  intro k nn s called
  have hcalled : (s.skip 3).callTo nn = called := s.callTo_skip 3 nn
  obtain ⟨hbytes, hcost⟩ := encode_cost_callCc k nn
  rw [← hcalled]
  exact ⟨⟨rfl, rfl, rfl⟩, hbytes, hcost,
    (exec_callCc k nn s).trans (congrArg Host.Outcome.next (s.callIf_skip 3 k nn))⟩

/-- Settles O25: RST is a call after one byte. -/
theorem restarts : Obligations.Restarts := by
  intro y s
  obtain ⟨hbytes, hcost⟩ := encode_cost_rstAt y
  exact ⟨hbytes, hcost, (exec_rstAt y s).trans (congrArg Host.Outcome.next (s.callTo_skip 1 _))⟩

/-- Settles O21: the unconditional jumps set PC whatever the fetch left there; the row of R252 chooses by its condition. -/
theorem absoluteJumps : Obligations.AbsoluteJumps := by
  refine ⟨fun f => ⟨rfl, rfl, rfl, rfl⟩, fun nn s => ?jpNn, fun k nn s => ?jpCc, fun s => ?jpAtHl⟩
  case jpCc =>
    obtain ⟨hbytes, hcost⟩ := encode_cost_jpCc k nn
    exact ⟨hbytes, hcost, (exec_jpCc k nn s).trans (congrArg Host.Outcome.next (s.jumpIf_skip 3 k nn))⟩
  case jpNn | jpAtHl => exact ⟨rfl, rfl, rfl⟩

/-- Settles O24: every return that is taken is `State.returnTo` after one byte, RETI with IME set besides. -/
theorem returns : Obligations.Returns := by
  intro k s returned
  have hreturned : (s.skip 1).returnTo = returned := s.returnTo_skip 1
  obtain ⟨hbytes, hcost⟩ := encode_cost_retCc k
  rw [← hreturned]
  exact ⟨⟨rfl, rfl, rfl⟩,
    ⟨hbytes, hcost, (exec_retCc k s).trans (congrArg Host.Outcome.next (s.returnIf_skip 1 k))⟩,
    rfl, rfl, congrArg Host.Outcome.next (s.returnFromInterrupt_skip 1)⟩

end Sys2Proof.Machine
end

section
/-! PROOFS of the family 46_rotate_shift_bit.md: the rotates of A (O26), the extended rotates, shifts and SWAP (O27), BIT (O28)
and CPL, SCF and CCF (O32). The rotates of A and those of the extended table share `rotCompute`. What it builds from bit
fields is said here once in the operators of the statements; both families are read off from that. -/

namespace Sys2Proof.Machine

/-! ### The bits of the one-place shifts and of SWAP -/

theorem getElem_shiftInLow (v : Byte) (c : Bool) {i : Nat} (hi : i < 8) :
    (shiftInLow v c)[i] = if i = 0 then c else v[i - 1] := by
  rw [shiftInLow, BitVec.append_ofBool, BitVec.getElem_concat]
  split
  · rfl
  · rw [BitVec.getElem_extractLsb', Nat.zero_add, BitVec.getLsbD_eq_getElem]

theorem getElem_shiftInHigh (v : Byte) (c : Bool) {i : Nat} (hi : i < 8) :
    (shiftInHigh v c)[i] = if h : i < 7 then v[i + 1] else c := by
  rw [shiftInHigh, BitVec.getElem_append]
  congr with h
  · rw [BitVec.getElem_extractLsb', Nat.add_comm, BitVec.getLsbD_eq_getElem]
  · rw [BitVec.getElem_ofBool]

theorem getElem_swapNibbles (v : Byte) {i : Nat} (hi : i < 8) :
    (swapNibbles v)[i] = if h : i < 4 then v[i + 4] else v[i - 4] := by
  rw [swapNibbles, BitVec.getElem_append]
  congr with h
  · rw [BitVec.getElem_extractLsb', Nat.add_comm, BitVec.getLsbD_eq_getElem]
  · rw [BitVec.getElem_extractLsb', Nat.zero_add, BitVec.getLsbD_eq_getElem]

/-! ### The same in the operators of the statements -/

/-- The bit shifted in at the low end, as the number 0 or 1 beside the shifted byte. -/
theorem shiftInLow_eq_or (v : Byte) (c : Bool) : shiftInLow v c = v <<< 1 ||| if c then 0x01#8 else 0x00#8 := by
  apply BitVec.eq_of_getElem_eq
  intro i hi
  rw [getElem_shiftInLow]
  cases c <;> cases i <;> simp

/-- The bit shifted in at the high end, as the number 0 or 1 moved to bit 7. -/
theorem shiftInHigh_eq_or (v : Byte) (c : Bool) :
    shiftInHigh v c = v >>> 1 ||| (if c then 0x01#8 else 0x00#8) <<< 7 := by
  apply BitVec.eq_of_getElem_eq
  intro i hi
  rw [getElem_shiftInHigh, BitVec.getElem_or, BitVec.getElem_ushiftRight, BitVec.getElem_shiftLeft]
  obtain h | rfl : i < 7 ∨ i = 7 := by omega
  · have hbit : v.getLsbD (1 + i) = v[i + 1] := by rw [Nat.add_comm, BitVec.getLsbD_eq_getElem]
    simp [h, hbit]
  · cases c <;> simp

/-- Bit 7 shifted in at the low end is the rotate left. -/
theorem shiftInLow_bitAt_seven (v : Byte) : shiftInLow v (bitAt v 7) = v.rotateLeft 1 := by
  apply BitVec.eq_of_getElem_eq
  intro i hi
  rw [getElem_shiftInLow, BitVec.getElem_rotateLeft]
  by_cases h : i = 0 <;> simp [h, bitAt]

/-- Bit 0 shifted in at the high end is the rotate right. -/
theorem shiftInHigh_bitAt_zero (v : Byte) : shiftInHigh v (bitAt v 0) = v.rotateRight 1 := by
  apply BitVec.eq_of_getElem_eq
  intro i hi
  rw [getElem_shiftInHigh, BitVec.getElem_rotateRight]
  obtain h | rfl : i < 7 ∨ i = 7 := by omega
  · simp [h, Nat.add_comm]
  · simp [bitAt]

/-- Bit 7 shifted in at the high end keeps the sign. -/
theorem shiftInHigh_bitAt_seven (v : Byte) : shiftInHigh v (bitAt v 7) = v.sshiftRight 1 := by
  apply BitVec.eq_of_getElem_eq
  intro i hi
  rw [getElem_shiftInHigh, BitVec.getElem_sshiftRight]
  obtain h | rfl : i < 7 ∨ i = 7 := by omega
  · simp [h, Nat.add_comm]
  · simp [bitAt, BitVec.msb_eq_getLsbD_last]

theorem swapNibbles_eq_rotateLeft (v : Byte) : swapNibbles v = v.rotateLeft 4 := by
  apply BitVec.eq_of_getElem_eq
  intro i hi
  rw [getElem_swapNibbles, BitVec.getElem_rotateLeft]
  by_cases h : i < 4 <;> simp [h, Nat.add_comm]

/-! ### The eight operations of R275 to R282 -/

theorem rotCompute_rlc (v : Byte) (cin : Bool) : rotCompute .rlc v cin = shifted (v.rotateLeft 1) (v.getLsbD 7) :=
  congrArg (shifted · _) (shiftInLow_bitAt_seven v)

theorem rotCompute_rrc (v : Byte) (cin : Bool) : rotCompute .rrc v cin = shifted (v.rotateRight 1) (v.getLsbD 0) :=
  congrArg (shifted · _) (shiftInHigh_bitAt_zero v)

theorem rotCompute_rl (v : Byte) (cin : Bool) :
    rotCompute .rl v cin = shifted (v <<< 1 ||| if cin then 0x01#8 else 0x00#8) (v.getLsbD 7) :=
  congrArg (shifted · _) (shiftInLow_eq_or v cin)

theorem rotCompute_rr (v : Byte) (cin : Bool) :
    rotCompute .rr v cin = shifted (v >>> 1 ||| (if cin then 0x01#8 else 0x00#8) <<< 7) (v.getLsbD 0) :=
  congrArg (shifted · _) (shiftInHigh_eq_or v cin)

theorem rotCompute_sla (v : Byte) (cin : Bool) : rotCompute .sla v cin = shifted (v <<< 1) (v.getLsbD 7) :=
  congrArg (shifted · _) ((shiftInLow_eq_or v false).trans BitVec.or_zero)

theorem rotCompute_sra (v : Byte) (cin : Bool) : rotCompute .sra v cin = shifted (v.sshiftRight 1) (v.getLsbD 0) :=
  congrArg (shifted · _) (shiftInHigh_bitAt_seven v)

theorem rotCompute_swap (v : Byte) (cin : Bool) : rotCompute .swap v cin = shifted (v.rotateLeft 4) false :=
  congrArg (shifted · _) (swapNibbles_eq_rotateLeft v)

theorem rotCompute_srl (v : Byte) (cin : Bool) : rotCompute .srl v cin = shifted (v >>> 1) (v.getLsbD 0) :=
  congrArg (shifted · _) ((shiftInHigh_eq_or v false).trans BitVec.or_zero)

/-! ### The shared operations -/

/-- A rotate of A changes PC, A and the flags only. -/
theorem State.rotA_eq_withResult {s : State} {op : RotOp} {w : Byte} {c : Bool}
    (h : rotCompute op s.a s.f.c = shifted w c) :
    s.rotA op = s.withResult 1 w (decide (w = 0#8)) false false c := by
  rw [State.rotA, h]
  rfl

/-- A rotate of the extended table fetches two bytes, writes its operand and sets the flags. -/
theorem State.rotOperand_eq_setOperand {s : State} {op : RotOp} {o : Operand8} {w : Byte} {c : Bool}
    (h : rotCompute op (s.operand o) s.f.c = shifted w c) :
    s.rotOperand op o =
      { { s with pc := s.pc + 2#16 }.setOperand o w with
        f := { z := decide (w = 0#8), n := false, h := false, c := c } } := by
  rw [State.rotOperand, h]
  rfl

/-- The tested bit as a digit of the number. -/
theorem bitFlags_eq_of_toNat (v : Byte) (b : Nat) (f : Flags) :
    bitFlags v b f = { z := decide (v.toNat / 2 ^ b % 2 = 0), n := false, h := true, c := f.c } := by
  have hbit : bitAt v b = decide (v.toNat / 2 ^ b % 2 = 1) := Nat.testBit_eq_decide_div_mod_eq
  rw [bitFlags, hbit, ← decide_not]
  simp only [Nat.mod_two_not_eq_one]

theorem State.bitTest_eq (s : State) (b : Nat) (o : Operand8) :
    s.bitTest b o =
      { s with
        pc := s.pc + 2#16
        f := { z := decide ((s.operand o).toNat / 2 ^ b % 2 = 0), n := false, h := true, c := s.f.c } } := by
  rw [State.bitTest, bitFlags_eq_of_toNat]
  rfl

/-- The complement of A as the subtraction from 0xFF, which never borrows. -/
theorem State.complementA_eq_withResult (s : State) :
    s.complementA = s.withResult 1 (0xFF#8 - s.a) s.f.z true true s.f.c := by
  have hnot : 0xFF#8 - s.a = ~~~s.a := BitVec.allOnes_sub_eq_not s.a
  rw [hnot]
  rfl

theorem State.complementA_complementA_a (s : State) : s.complementA.complementA.a = s.a :=
  BitVec.not_not

/-! ### The rows of the extended table -/

theorem encode_cost_rotR (op : RotOp) (o : Operand8) :
    encode (.rotR op o) = [0xCB#8, BitVec.ofNat 8 (8 * op.field + o.field)] ∧
      instrCycles (.rotR op o) = if o = .atHl then 16 else 8 := by
  cases o with
  | reg r => cases op <;> cases r <;> exact ⟨rfl, rfl⟩
  | atHl => cases op <;> exact ⟨rfl, rfl⟩

theorem encode_cost_bitR (b : Index8) (o : Operand8) :
    encode (.bitR b o) = [0xCB#8, BitVec.ofNat 8 (0x40 + 8 * b.toNat + o.field)] ∧
      instrCycles (.bitR b o) = if o = .atHl then 16 else 8 := by
  cases o with
  | reg r => cases b <;> cases r <;> exact ⟨rfl, rfl⟩
  | atHl => cases b <;> exact ⟨rfl, rfl⟩

/-- A row of the extended rotates, from what its operation computes. -/
theorem rotR_row {op : RotOp} {o : Operand8} {s : State} {w : Byte} {c : Bool}
    (h : rotCompute op (s.operand o) s.f.c = shifted w c) :
    encode (.rotR op o) = [0xCB#8, BitVec.ofNat 8 (8 * op.field + o.field)] ∧
      instrCycles (.rotR op o) = (if o = .atHl then 16 else 8) ∧
      exec (.rotR op o) s =
        .next { { s with pc := s.pc + 2#16 }.setOperand o w with
          f := { z := decide (w = 0#8), n := false, h := false, c := c } } := by
  obtain ⟨hbytes, hcost⟩ := encode_cost_rotR op o
  exact ⟨hbytes, hcost, (exec_rotR op o s).trans (congrArg Host.Outcome.next (State.rotOperand_eq_setOperand h))⟩

/-! ### The statements -/

/-- Settles O26: the four rotates of A are the first four operations of the table, on A. -/
theorem accumulatorRotates : Obligations.AccumulatorRotates := by
  intro s res carry
  have hrot {op : RotOp} {w : Byte} {c : Bool} (h : rotCompute op s.a s.f.c = shifted w c) :
      Host.Outcome.next (s.rotA op) = (.next (res w c) : Result) :=
    congrArg Host.Outcome.next (State.rotA_eq_withResult h)
  exact ⟨⟨rfl, rfl, hrot (rotCompute_rlc _ _)⟩, ⟨rfl, rfl, hrot (rotCompute_rl _ _)⟩,
    ⟨rfl, rfl, hrot (rotCompute_rrc _ _)⟩, ⟨rfl, rfl, hrot (rotCompute_rr _ _)⟩⟩

/-- Settles O27: a row over every operand for each of the eight operations. -/
theorem extendedRotates : Obligations.ExtendedRotates := by
  intro o s v carry does
  exact ⟨rotR_row (rotCompute_rlc _ _), rotR_row (rotCompute_rrc _ _), rotR_row (rotCompute_rl _ _),
    rotR_row (rotCompute_rr _ _), rotR_row (rotCompute_sla _ _), rotR_row (rotCompute_sra _ _),
    rotR_row (rotCompute_swap _ _), rotR_row (rotCompute_srl _ _)⟩

/-- Settles O28: the state after BIT is the fetched one but for its flags, for every bit and operand. -/
theorem bitTest : Obligations.BitTest := by
  intro b o s
  obtain ⟨hbytes, hcost⟩ := encode_cost_bitR b o
  exact ⟨hbytes, hcost, (exec_bitR b o s).trans (congrArg Host.Outcome.next (s.bitTest_eq b.toNat o))⟩

/-- Settles O32: CPL complements A, which is its own inverse; SCF and CCF write A back as it was. -/
theorem complementAndCarry : Obligations.ComplementAndCarry := by
  refine fun s => ⟨⟨rfl, rfl, ?cpl, ?twice⟩, ⟨rfl, rfl, rfl⟩, ⟨rfl, rfl, rfl⟩⟩
  case cpl => exact congrArg Host.Outcome.next s.complementA_eq_withResult
  case twice => exact ⟨s.complementA, s.complementA.complementA, rfl, rfl, s.complementA_complementA_a⟩

end Sys2Proof.Machine
end

section
/-! PROOFS of the family 47_cpu_control.md: NOP (O33), DI and EI and the dispatch that sees them (O35), the entry byte 0xCB
(O36) and the opcodes without a handler (O37). -/

namespace Sys2Proof.Machine

/-! ### What interrupt dispatch services -/

theorem State.serviceable_of_masked {s : State} (h : s.ime = false) : s.serviceable = none := by
  simp [State.serviceable, h]

theorem State.serviceable_of_enabled {s : State} (hime : s.ime = true) (hstopped : s.stopped = false) :
    s.serviceable = firstSource s.pendingSources := by
  simp [State.serviceable, hime, hstopped]

/-! ### Opcodes without a handler -/

theorem State.unlessStubbed_of_stubbed {s : State} (h : s.config.stubOptional = true) (op : OpcodeValue)
    (run : State → State) : s.unlessStubbed op run = s.raiseIllegal op :=
  if_pos h

/-- An instruction with a stub faults where the stub is chosen. -/
theorem exec_eq_raiseIllegal_of_stubbed {i : Instr} {s : State} {op : OpcodeValue} {run : State → State}
    (hexec : exec i s = .next (s.unlessStubbed op run)) (h : s.config.stubOptional = true) :
    exec i s = .next (s.raiseIllegal op) :=
  hexec.trans (congrArg Host.Outcome.next (State.unlessStubbed_of_stubbed h op run))

theorem encode_illegal : ∀ p ∈ illegalOpcodes, p.1.WellFormed ∧ encode p.1 = [p.2] := by decide

/-- An illegal opcode decodes, to the row of the table that faults (R130). -/
theorem decode_illegal {p : Instr × Byte} (hp : p ∈ illegalOpcodes) : decode [p.2] = .ok (p.1, []) := by
  obtain ⟨hwf, hbytes⟩ := encode_illegal p hp
  have hround : decode (encode p.1 ++ []) = .ok (p.1, []) := decode_encode p.1 hwf []
  rwa [hbytes] at hround

/-! ### The statements -/

/-- Settles O36: the entry byte and the extended instruction it selects have the one meaning `State.runExtended`. -/
theorem prefixRunsExtended : Obligations.PrefixRunsExtended := by
  refine ⟨fun op2 rest => rfl, rfl, fun s => ?_⟩
  exact ⟨s.runExtended (s.memRead (s.pc + 1#16)), exec_decodeExtended _ s, rfl⟩

/-- Settles O33: the row and the meaning of NOP, as the model defines them. -/
theorem noOperation : Obligations.NoOperation := fun _ => ⟨rfl, rfl, rfl⟩

/-- Settles O35: with IME clear nothing is serviceable; with IME set, and unless stopped, the least pending source is. -/
theorem disableAndEnableInterrupts : Obligations.DisableAndEnableInterrupts := by
  refine ⟨fun _ => ⟨rfl, rfl, rfl⟩, fun _ => ⟨rfl, rfl, rfl⟩, ?masked, ?enabled⟩
  case masked => exact fun s hime => State.executeInterrupts_none (State.serviceable_of_masked hime)
  case enabled =>
    intro s hime hstopped hpending
    have hfirst : firstSource s.pendingSources ≠ none := mt firstSource_eq_none.mp hpending
    obtain ⟨k, hk⟩ := Option.ne_none_iff_exists'.mp hfirst
    exact ⟨k, State.executeInterrupts_some ((State.serviceable_of_enabled hime hstopped).trans hk)⟩

/-- Settles O37: an illegal or stubbed opcode is `State.raiseIllegal`; a latched fault ends its tick and every later step. -/
theorem illegalOpcodesFault : Obligations.IllegalOpcodesFault := by
  refine ⟨rfl, ?illegal, ?stubbed, ?latched⟩
  case illegal =>
    intro p hp s
    obtain ⟨-, hbytes⟩ := encode_illegal p hp
    exact ⟨hbytes, decode_illegal hp, exec_illegal p hp s⟩
  case stubbed =>
    intro s o n b hstub
    exact ⟨exec_eq_raiseIllegal_of_stubbed (exec_sbcR o s) hstub, exec_eq_raiseIllegal_of_stubbed (exec_sbcN n s) hstub,
      exec_eq_raiseIllegal_of_stubbed (exec_resR b o s) hstub, exec_eq_raiseIllegal_of_stubbed (exec_setR b o s) hstub⟩
  case latched => exact fun s record cost hfault => ⟨State.finishTick_fault hfault cost, step_of_fault hfault⟩

end Sys2Proof.Machine
end

section
/-! PROOFS of the family 48_video_timing.md: every case of `Advance` (O52), and that a tick hands out at most one frame (O57).
For O57 a tick is its moves between two calls of `Advance`, which keep the picture, and the two calls. A call that reaches
the threshold sets the clock to 0, and the cycles of a dispatch do not reach the next threshold from there, so only one of
the two calls can hand out a frame. -/

namespace Sys2Proof.Machine

/-! ### The cases of `Advance` -/

theorem State.endMode_oam {s : State} (h : s.mode = .oam) : s.endMode = { s with mode := .xfer } := by
  simp only [State.endMode, h]

theorem State.endMode_xfer {s : State} (h : s.mode = .xfer) : s.endMode = s.endXfer := by
  simp only [State.endMode, h]

theorem State.endMode_hblank {s : State} (h : s.mode = .hblank) : s.endMode = s.endHblank := by
  simp only [State.endMode, h]

theorem State.endMode_vblank {s : State} (h : s.mode = .vblank) : s.endMode = s.endVblankLine := by
  simp only [State.endMode, h]

/-- At the end of line 143 the frame is handed out and V-blank posted (R338). -/
theorem State.endHblank_last {s : State} (h : s.line = 143) :
    s.endHblank =
      { s.moveToLine 144 with mode := .vblank, frames := s.frames ++ [s.canvas] }.postInterrupt .vblank := by
  simp only [State.endHblank, h]
  rfl

theorem State.endHblank_of_ne {s : State} (h : s.line ≠ 143) :
    s.endHblank = { s.moveToLine (s.line + 1) with mode := .oam } :=
  if_neg (by omega)

theorem State.endVblankLine_of_lt {s : State} (h : s.line < 153) : s.endVblankLine = s.moveToLine (s.line + 1) :=
  if_neg (by omega)

theorem State.endVblankLine_last {s : State} (h : 153 ≤ s.line) :
    s.endVblankLine = { s with mode := .oam }.moveToLine 0 :=
  if_pos (by omega)

/-- Settles O52: with the display on, `Advance` counts below the mode's threshold and takes the mode's one transition at it. -/
theorem videoAdvance : Obligations.VideoAdvance := by
  intro s c at0 ly
  refine ⟨s.advance_off c, fun hon => ?_⟩
  have stay {m : PpuMode} (hm : s.mode = m) :
      s.clock + c < modeThreshold m → s.advance c = { s with clock := s.clock + c } :=
    hm ▸ s.advance_stay c hon
  have ends {m : PpuMode} (hm : s.mode = m) : modeThreshold m ≤ s.clock + c → s.advance c = at0.endMode :=
    hm ▸ s.advance_end c hon
  refine ⟨?oam, ?xfer, ?hblank, ?vblank⟩ <;> intro hm <;> refine ⟨stay hm, ?_⟩
  case oam => exact fun h => (ends hm h).trans (State.endMode_oam hm)
  case xfer => exact fun h => (ends hm h).trans (State.endMode_xfer hm)
  case hblank =>
    have next h := (ends hm h).trans (State.endMode_hblank (s := at0) hm)
    exact ⟨fun h hl => (next h).trans (State.endHblank_of_ne hl), fun h hl => (next h).trans (State.endHblank_last hl)⟩
  case vblank =>
    have next h := (ends hm h).trans (State.endMode_vblank (s := at0) hm)
    exact ⟨fun h hl => (next h).trans (State.endVblankLine_of_lt hl),
      fun h hl => (next h).trans (State.endVblankLine_last hl)⟩

/-! ### What keeps the picture -/

/-- From `s` to `t` the mode, the canvas and the frames stay, and the line moves at most to 0, as a store to LY moves it. -/
structure State.PictureKept (s t : State) : Prop where
  mode : t.mode = s.mode
  canvas : t.canvas = s.canvas
  frames : t.frames = s.frames
  line : t.line = s.line ∨ t.line = 0

theorem State.PictureKept.refl (s : State) : s.PictureKept s := ⟨rfl, rfl, rfl, .inl rfl⟩

theorem State.PictureKept.trans {s t u : State} (h : s.PictureKept t) (h' : t.PictureKept u) : s.PictureKept u where
  mode := h'.mode.trans h.mode
  canvas := h'.canvas.trans h.canvas
  frames := h'.frames.trans h.frames
  line := by rcases h'.line with hl | hl <;> simp [hl, h.line]

theorem WriteHook.run_line (k : WriteHook) (s : State) : (k.run s).line = 0 := by
  cases k; rfl

theorem State.line_foldHooks (ks : List (Word × WriteHook)) (s : State) :
    (ks.foldl (fun t p => p.2.run t) s).line = s.line ∨ (ks.foldl (fun t p => p.2.run t) s).line = 0 := by
  induction ks generalizing s with
  | nil => exact .inl rfl
  | cons p rest ih =>
    have h0 := p.2.run_line s
    rcases ih (p.2.run s) with h | h
    · exact .inr (h.trans h0)
    · exact .inr h

/-- Whatever hooks are registered, a hooked write moves the line at most to 0. -/
theorem State.pictureKept_memWrite (s : State) (a : Word) (v : Byte) : s.PictureKept (s.memWrite a v) where
  mode := s.memWrite_mode a v
  canvas := s.memWrite_canvas a v
  frames := s.memWrite_frames a v
  line := by
    obtain ⟨hl, -, -⟩ := s.busStore_video a v
    rw [← hl]
    exact State.line_foldHooks _ _

theorem State.pictureKept_writeAll (s : State) (ws : List (Word × Byte)) : s.PictureKept (s.writeAll ws) := by
  induction ws generalizing s with
  | nil => exact .refl s
  | cons p rest ih => exact (s.pictureKept_memWrite p.1 p.2).trans (ih _)

theorem InstrEffect.pictureKept {i : Instr} {s t : State} (h : InstrEffect i s t) : s.PictureKept t := by
  rw [h.bus]
  obtain ⟨hmode, hcanvas, hframes, hline⟩ := s.pictureKept_writeAll (storesOf i s)
  exact ⟨hmode, hcanvas, hframes, hline⟩

theorem State.pictureKept_dropOverlay (s : State) : s.PictureKept s.dropOverlay := by
  rw [State.dropOverlay_eq]
  exact ⟨rfl, rfl, rfl, .inl rfl⟩

/-- Interrupt entry touches the picture by the two stores of its push only. -/
theorem State.pictureKept_takeInterrupt (s : State) (k : InterruptSource) : s.PictureKept (s.takeInterrupt k) := by
  rw [State.takeInterrupt_eq]
  obtain ⟨hmode, hcanvas, hframes, hline⟩ :=
    (State.pictureKept_memWrite _ _ _).trans (State.pictureKept_memWrite _ _ _)
  exact ⟨hmode, hcanvas, hframes, hline⟩

theorem State.pictureKept_executeInterrupts (s : State) : s.PictureKept s.executeInterrupts.1 := by
  cases h : s.serviceable with
  | none => rw [State.executeInterrupts_none h]; exact .refl s
  | some k => rw [State.executeInterrupts_some h]; exact s.pictureKept_takeInterrupt k

@[simp] theorem State.executeInterrupts_clock (s : State) : s.executeInterrupts.1.clock = s.clock := by
  cases h : s.serviceable with
  | none => rw [State.executeInterrupts_none h]
  | some k => simp [State.executeInterrupts_some h, State.takeInterrupt_eq]

theorem State.executeInterrupts_cost_le (s : State) : s.executeInterrupts.2 ≤ 5 := by
  cases h : s.serviceable with
  | none => simp [State.executeInterrupts_none h]
  | some k => simp [State.executeInterrupts_some h]

/-! ### What hands out a frame -/

/-- From `s` to `t` one frame is handed out, the canvas as it stands, at the end of line 143 (R338). -/
structure State.HandsOut (s t : State) : Prop where
  frames : t.frames = s.frames ++ [s.canvas]
  canvas : t.canvas = s.canvas
  mode : s.mode = .hblank
  line : s.line = 143

/-- A move that kept the picture before a frame is handed out was not a store to LY, since the line is then 143. -/
theorem State.PictureKept.handsOut {s t u : State} (h : s.PictureKept t) (h' : t.HandsOut u) : s.HandsOut u where
  frames := by rw [h'.frames, h.frames, h.canvas]
  canvas := h'.canvas.trans h.canvas
  mode := h.mode.symm.trans h'.mode
  line := by
    have hline := h'.line
    rcases h.line with hl | hl <;> omega

/-- No transition moves the clock, and only the one out of the horizontal blank of line 143 touches the frames. -/
theorem State.clock_frames_endMode (s : State) :
    s.endMode.clock = s.clock ∧ (s.endMode.frames = s.frames ∨ s.HandsOut s.endMode) := by
  cases hm : s.mode with
  | oam => rw [State.endMode_oam hm]; exact ⟨rfl, .inl rfl⟩
  | xfer => rw [State.endMode_xfer hm]; exact ⟨rfl, .inl rfl⟩
  | hblank =>
    rw [State.endMode_hblank hm]
    by_cases hl : s.line = 143
    · rw [State.endHblank_last hl]; exact ⟨rfl, .inr ⟨rfl, rfl, hm, hl⟩⟩
    · rw [State.endHblank_of_ne hl]; exact ⟨rfl, .inl rfl⟩
  | vblank =>
    rw [State.endMode_vblank hm]
    rcases Nat.lt_or_ge s.line 153 with hl | hl
    · rw [State.endVblankLine_of_lt hl]; exact ⟨rfl, .inl rfl⟩
    · rw [State.endVblankLine_last hl]; exact ⟨rfl, .inl rfl⟩

/-- A call of `Advance` counts and keeps the picture, or it restarts the clock and hands out at most one frame. -/
theorem State.advance_cases (s : State) (c : Nat) :
    s.PictureKept (s.advance c) ∨
      ((s.advance c).clock = 0 ∧ ((s.advance c).frames = s.frames ∨ s.HandsOut (s.advance c))) := by
  cases hd : s.displayOn with
  | false => rw [State.advance_off s c hd]; exact .inr ⟨rfl, .inl rfl⟩
  | true =>
    rcases Nat.lt_or_ge (s.clock + c) (modeThreshold s.mode) with hc | hc
    · rw [State.advance_stay s c hd hc]; exact .inl ⟨rfl, rfl, rfl, .inl rfl⟩
    · rw [State.advance_end s c hd hc]
      obtain ⟨hclock, hframes | ⟨hframes, hcanvas, hmode, hline⟩⟩ := State.clock_frames_endMode { s with clock := 0 }
      · exact .inr ⟨hclock, .inl hframes⟩
      · exact .inr ⟨hclock, .inr ⟨hframes, hcanvas, hmode, hline⟩⟩

theorem State.frames_advance (s : State) (c : Nat) :
    (s.advance c).frames = s.frames ∨ s.HandsOut (s.advance c) := by
  rcases s.advance_cases c with h | ⟨-, h⟩
  · exact .inl h.frames
  · exact h

/-- The cycles of a dispatch reach no threshold from 0: the picture stays. -/
theorem State.advance_of_clock_eq_zero {s : State} (h : s.clock = 0) {c : Nat} (hc : c ≤ 5) :
    (s.advance c).frames = s.frames ∧ (s.advance c).canvas = s.canvas := by
  cases hd : s.displayOn with
  | false => rw [State.advance_off s c hd]; exact ⟨rfl, rfl⟩
  | true =>
    have hpos : 5 < modeThreshold s.mode := by cases s.mode <;> decide
    rw [State.advance_stay s c hd (by omega)]
    exact ⟨rfl, rfl⟩

/-- The two calls of `Advance` in a tick, with the dispatch between them, hand out at most one frame. -/
theorem State.frames_advance_executeInterrupts (s : State) (cost : Nat) {t : State}
    (ht : t = (s.advance cost).executeInterrupts.1.advance (s.advance cost).executeInterrupts.2) :
    t.frames = s.frames ∨ s.HandsOut t := by
  have hserved := (s.advance cost).pictureKept_executeInterrupts
  rw [ht]
  rcases s.advance_cases cost with hkept | ⟨hclock, hfirst⟩
  · have hboth := hkept.trans hserved
    rcases State.frames_advance (s.advance cost).executeInterrupts.1 (s.advance cost).executeInterrupts.2 with h | h
    · exact .inl (h.trans hboth.frames)
    · exact .inr (hboth.handsOut h)
  · obtain ⟨hframes, hcanvas⟩ := State.advance_of_clock_eq_zero
      ((State.executeInterrupts_clock _).trans hclock) (State.executeInterrupts_cost_le _)
    have hframes' := hframes.trans hserved.frames
    rcases hfirst with h | ⟨hf, hc, hmode, hline⟩
    · exact .inl (hframes'.trans h)
    · exact .inr ⟨hframes'.trans hf, (hcanvas.trans hserved.canvas).trans hc, hmode, hline⟩

theorem State.frames_finishTick (s : State) (cost : Nat) :
    (s.finishTick cost).frames = s.frames ∨ s.HandsOut (s.finishTick cost) := by
  cases hf : s.fault with
  | some record => rw [State.finishTick_fault hf]; exact .inl rfl
  | none =>
    rw [State.finishTick_running hf]
    rcases State.frames_advance_executeInterrupts { s with breakNext := false } cost rfl with
      h | ⟨hframes, hcanvas, hmode, hline⟩
    · exact .inl h
    · exact .inr ⟨hframes, hcanvas, hmode, hline⟩

/-- Settles O57: an instruction keeps the picture, and the rest of the tick hands out at most one frame. -/
theorem framesAppendOnly : Obligations.FramesAppendOnly := by
  intro s t hstep
  have hout : t.frames = s.frames ∨ s.HandsOut t := by
    rcases step_cases hstep with ⟨-, rfl⟩ | ⟨-, -, -, u, he, -, rfl⟩
    · exact s.frames_finishTick 0
    · have hkept := s.pictureKept_dropOverlay.trans he.pictureKept
      exact (u.frames_finishTick _).imp (fun h => h.trans hkept.frames) hkept.handsOut
  exact hout.imp_right fun ⟨hframes, hcanvas, hmode, hline⟩ => ⟨hframes, hcanvas, hmode, hline⟩

end Sys2Proof.Machine
end

section
/-! PROOFS of the family 60_exceptions.md: which instructions change the fault record (O38), what an instruction changes
besides registers and memory (O39), interrupt dispatch (O50) and posting (O51). O39 is read off from `InstrEffect`: outside
the CPU registers an instruction is its listed hooked writes, and a hooked write changes the bus part of the state alone. -/

namespace Sys2Proof.Machine

/-! ### The fault record -/

/-- From every state the instruction leaves the fault record alone, or it is one that R383 excepts. -/
def FaultsOnlyIfExcepted (i : Instr) : Prop :=
  ∀ s t : State, exec i s = .next t →
    t.fault = s.fault ∨ (∃ op, (i, op) ∈ illegalOpcodes) ∨ (s.config.stubOptional = true ∧ optionalInstr i)

/-- An instruction whose meaning never touches the record. -/
theorem FaultsOnlyIfExcepted.ofRun {i : Instr} {run : State → State} (hexec : ∀ s, exec i s = .next (run s))
    (hrun : ∀ s, (run s).fault = s.fault) : FaultsOnlyIfExcepted i := by
  intro s t h
  rw [hexec] at h
  cases h
  exact .inl (hrun s)

/-- Without the stub an optional instruction is its meaning. -/
theorem State.fault_unlessStubbed {s : State} {run : State → State} (hrun : (run s).fault = s.fault) (op : OpcodeValue) :
    (s.unlessStubbed op run).fault = s.fault ∨ s.config.stubOptional = true := by
  cases h : s.config.stubOptional with
  | true => exact .inr rfl
  | false => exact .inl (by simp [State.unlessStubbed, h, hrun])

theorem FaultsOnlyIfExcepted.ofStubbed {i : Instr} {op : OpcodeValue} {run : State → State} (hopt : optionalInstr i)
    (hexec : ∀ s, exec i s = .next (s.unlessStubbed op run)) (hrun : ∀ s, (run s).fault = s.fault) :
    FaultsOnlyIfExcepted i := by
  intro s t h
  rw [hexec] at h
  cases h
  exact (State.fault_unlessStubbed (hrun s) op).imp_right fun hstub => .inr ⟨hstub, hopt⟩

@[simp] theorem State.setOperand_fault (s : State) (o : Operand8) (v : Byte) : (s.setOperand o v).fault = s.fault := by
  cases o with
  | reg r => exact s.setReg_fault r v
  | atHl => exact s.memWrite_fault _ v

@[simp] theorem State.resBit_fault (s : State) (b : Nat) (o : Operand8) : (s.resBit b o).fault = s.fault := by
  simp [State.resBit]

@[simp] theorem State.setBitOf_fault (s : State) (b : Nat) (o : Operand8) : (s.setBitOf b o).fault = s.fault := by
  simp [State.setBitOf]

@[simp] theorem State.rotOperand_fault (s : State) (op : RotOp) (o : Operand8) :
    (s.rotOperand op o).fault = s.fault := by
  simp [State.rotOperand]

@[simp] theorem State.push16_fault (s : State) (v : Word) : (s.push16 v).fault = s.fault := by
  simp [State.push16]

@[simp] theorem State.callTo_fault (s : State) (target : Word) : (s.callTo target).fault = s.fault :=
  s.push16_fault s.pc

@[simp] theorem State.storeA_fault (s : State) (addr : Word) (len : Nat) : (s.storeA addr len).fault = s.fault := by
  simp [State.storeA]

@[simp] theorem State.moveHl_fault (s : State) (by' : Word) : (s.moveHl by').fault = s.fault :=
  s.setPair_fault .hl _

/-- An extended instruction faults only as a stub (R284, R285). -/
theorem State.fault_runExtended (s : State) (op2 : Byte) :
    (s.runExtended op2).fault = s.fault ∨ s.config.stubOptional = true := by
  unfold State.runExtended
  split
  · exact .inl (s.rotOperand_fault _ _)
  · exact .inl rfl
  · exact State.fault_unlessStubbed (s.resBit_fault _ _) _
  · exact State.fault_unlessStubbed (s.setBitOf_fault _ _) _

theorem faultsOnlyIfExcepted_aluR (op : AluOp) (o : Operand8) : FaultsOnlyIfExcepted (.aluR op o) := by
  by_cases h : op = .sbc
  · subst h
    exact .ofStubbed (.inl ⟨o, rfl⟩) (exec_sbcR o) fun _ => rfl
  · exact .ofRun (exec_aluR op o h) fun _ => rfl

theorem faultsOnlyIfExcepted_aluN (op : AluOp) (n : Byte) : FaultsOnlyIfExcepted (.aluN op n) := by
  by_cases h : op = .sbc
  · subst h
    exact .ofStubbed (.inr (.inl ⟨n, rfl⟩)) (exec_sbcN n) fun _ => rfl
  · exact .ofRun (exec_aluN op n h) fun _ => rfl

/-- The rows with an exception by name, the stores and the register writes by the lemmas above, and the others because
their meaning names no record. -/
theorem faultsOnlyIfExcepted (i : Instr) : FaultsOnlyIfExcepted i := by
  apply Instr.byFamily (Q := FaultsOnlyIfExcepted)
  case illegal => exact fun p hp _ _ _ => .inr (.inl ⟨p.2, hp⟩)
  case aluR => exact faultsOnlyIfExcepted_aluR
  case aluN => exact faultsOnlyIfExcepted_aluN
  case resR =>
    exact fun b o => .ofStubbed (.inr (.inr (.inl ⟨b, o, rfl⟩))) (exec_resR b o) fun s => s.resBit_fault _ o
  case setR =>
    exact fun b o => .ofStubbed (.inr (.inr (.inr (.inl ⟨b, o, rfl⟩)))) (exec_setR b o) fun s => s.setBitOf_fault _ o
  case prefixCb =>
    intro s t h
    cases h
    exact (s.fault_runExtended _).imp_right fun hstub => .inr ⟨hstub, .inr (.inr (.inr (.inr rfl)))⟩
  case rotR => exact fun op o => .ofRun (exec_rotR op o) fun s => s.rotOperand_fault op o
  case bitR => exact fun b o => .ofRun (exec_bitR b o) fun _ => rfl
  case incR => exact fun o => .ofRun (exec_incR o) fun s => (s.skip 1).setOperand_fault o _
  case decR => exact fun o => .ofRun (exec_decR o) fun s => (s.skip 1).setOperand_fault o _
  case ldHlR => exact fun src => .ofRun (exec_ldHlR src) fun s => (s.skip 1).memWrite_fault _ _
  case ldAtBcA | ldAtDeA | ldAtCA => exact .ofRun (fun _ => rfl) fun s => s.storeA_fault _ 1
  case ldhAtNA => exact fun n => .ofRun (fun _ => rfl) fun s => s.storeA_fault _ 2
  case ldAtNnA => exact fun nn => .ofRun (fun _ => rfl) fun s => s.storeA_fault nn 3
  case ldAtHlIncA | ldAtHlDecA =>
    exact .ofRun (fun _ => rfl) fun s => (State.moveHl_fault _ _).trans (s.storeA_fault _ 1)
  case ldAtHlN => exact fun n => .ofRun (fun _ => rfl) fun s => (s.skip 2).memWrite_fault _ n
  case ldAtNnSp => exact fun nn => .ofRun (fun _ => rfl) fun s => (s.skip 3).memWrite16_fault nn s.sp
  case pushPair => exact fun p => .ofRun (exec_pushPair p) fun s => (s.skip 1).push16_fault _
  case callNn => exact fun nn => .ofRun (fun _ => rfl) fun s => (s.skip 3).callTo_fault nn
  case rstAt => exact fun y => .ofRun (exec_rstAt y) fun s => (s.skip 1).callTo_fault _
  case callCc =>
    refine fun k nn => .ofRun (exec_callCc k nn) fun s => ?_
    rw [State.callIf_skip, apply_ite State.fault, State.callTo_fault]
    exact ite_self _
  case jpCc => exact fun k nn => .ofRun (exec_jpCc k nn) fun s => by rw [State.jumpIf_skip]
  case jrCc => exact fun k e => .ofRun (exec_jrCc k e) fun s => by rw [State.jumpIf_skip]
  case retCc =>
    refine fun k => .ofRun (exec_retCc k) fun s => ?_
    rw [State.returnIf_skip, apply_ite State.fault]
    exact ite_self _
  case ldRR => exact fun dst src => .ofRun (exec_ldRR dst src) fun s => (s.skip 1).setReg_fault dst _
  case ldRN => exact fun dst n => .ofRun (exec_ldRN dst n) fun s => (s.skip 2).setReg_fault dst n
  case ldRHl => exact fun dst => .ofRun (exec_ldRHl dst) fun s => (s.skip 1).setReg_fault dst _
  case ldPairNn => exact fun p nn => .ofRun (exec_ldPairNn p nn) fun s => (s.skip 3).setPair_fault p nn
  case addHlPair => exact fun p => .ofRun (exec_addHlPair p) fun _ => rfl
  case incPair => exact fun p => .ofRun (exec_incPair p) fun s => (s.skip 1).setPair_fault p _
  case decPair => exact fun p => .ofRun (exec_decPair p) fun s => (s.skip 1).setPair_fault p _
  case popPair => exact fun p => .ofRun (exec_popPair p) fun s => (s.skip 1).dropWord.setStackPair_fault p _
  case jrDisp | jpNn | addSpDisp | ldhAAtN | ldHlSpDisp | ldAAtNn => exact fun _ => .ofRun (fun _ => rfl) fun _ => rfl
  all_goals exact .ofRun (fun _ => rfl) fun _ => rfl

/-- Settles O38: every instruction answers a next state (`exec_next`), and touches the record only as R383 says. -/
theorem onlyIllegalOpcodesFault : Obligations.OnlyIllegalOpcodesFault := by
  intro i s
  obtain ⟨t, hexec⟩ := exec_next i s
  exact ⟨t, hexec, faultsOnlyIfExcepted i s t hexec⟩

/-! ### The control state -/

theorem State.writeAll_shape (s : State) (ws : List (Word × Byte)) :
    s.writeAll ws = s.withBus (s.writeAll ws).busPart := by
  induction ws generalizing s with
  | nil => rfl
  | cons w rest ih =>
    calc (s.memWrite w.1 w.2).writeAll rest
      _ = (s.memWrite w.1 w.2).withBus ((s.memWrite w.1 w.2).writeAll rest).busPart := ih _
      _ = (s.withBus (s.memWrite w.1 w.2).busPart).withBus ((s.memWrite w.1 w.2).writeAll rest).busPart := by
        rw [← State.memWrite_shape]

/-- An instruction changes the CPU registers and the bus part, and nothing else. -/
theorem InstrEffect.shape {i : Instr} {s t : State} (h : InstrEffect i s t) :
    t = (s.withBus (s.writeAll (storesOf i s)).busPart).withCpuOf t := by
  rw [← State.writeAll_shape]
  exact h.bus

/-- The banking state is the same (R35). -/
def State.SameBanks (s t : State) : Prop :=
  t.romBank = s.romBank ∧ t.ramBank = s.ramBank ∧ t.ramEnabled = s.ramEnabled

/-- Only a write below 0x8000 in mode simple is a bank command (R74, R76). -/
theorem State.sameBanks_memWrite {s : State} (hk : s.hooks = HookRegistry.atReset) (a : Word) (v : Byte) :
    s.SameBanks (s.memWrite a v) ∨ (s.header.mbcMode = .simple ∧ a.toNat < 0x8000) := by
  by_cases hlow : a.toNat < 0x8000
  · cases hm : s.header.mbcMode with
    | none =>
      rw [State.memWrite_low hk (by omega), State.bankControl, hm]
      exact .inl ⟨rfl, rfl, rfl⟩
    | simple => exact .inr ⟨rfl, hlow⟩
  refine .inl ?_
  by_cases hext : 0xA000 ≤ a.toNat ∧ a.toNat ≤ 0xBFFF
  · rw [State.memWrite_extRam hk hext, State.extRamWrite]
    split <;> exact ⟨rfl, rfl, rfl⟩
  by_cases hly : a = lyAddr
  · subst hly
    rw [State.memWrite_ly hk]
    exact ⟨rfl, rfl, rfl⟩
  · rw [State.memWrite_raw hk (by omega) hext hly]
    exact ⟨rfl, rfl, rfl⟩

theorem State.sameBanks_writeAll {s : State} (hk : s.hooks = HookRegistry.atReset) (ws : List (Word × Byte)) :
    s.SameBanks (s.writeAll ws) ∨ (s.header.mbcMode = .simple ∧ ∃ w ∈ ws, w.1.toNat < 0x8000) := by
  induction ws generalizing s with
  | nil => exact .inl ⟨rfl, rfl, rfl⟩
  | cons w rest ih =>
    rcases State.sameBanks_memWrite hk w.1 w.2 with ⟨hrom, hram, hon⟩ | ⟨hm, hw⟩
    · rcases ih ((s.memWrite_hooks w.1 w.2).trans hk) with ⟨hrom', hram', hon'⟩ | ⟨hm, u, hu, hlow⟩
      · exact .inl ⟨hrom'.trans hrom, hram'.trans hram, hon'.trans hon⟩
      · rw [State.memWrite_header] at hm
        exact .inr ⟨hm, u, List.mem_cons_of_mem w hu, hlow⟩
    · exact .inr ⟨hm, w, List.mem_cons_self, hw⟩

/-- Only a write to LY moves the line (R345). -/
theorem State.line_memWrite {s : State} (hk : s.hooks = HookRegistry.atReset) (a : Word) (v : Byte) :
    (s.memWrite a v).line = if a = lyAddr then 0 else s.line := by
  obtain ⟨hline, -, -⟩ := s.busStore_video a v
  rw [State.memWrite_of_hooks s a v hk, apply_ite State.line, WriteHook.run_line, hline]

theorem State.line_writeAll {s : State} (hk : s.hooks = HookRegistry.atReset) (ws : List (Word × Byte)) :
    (s.writeAll ws).line = s.line ∨ ((s.writeAll ws).line = 0 ∧ ∃ w ∈ ws, w.1 = lyAddr) := by
  induction ws generalizing s with
  | nil => exact .inl rfl
  | cons w rest ih =>
    have hw := State.line_memWrite hk w.1 w.2
    rcases ih ((s.memWrite_hooks w.1 w.2).trans hk) with h | ⟨h, u, hu, hly⟩
    · by_cases hly : w.1 = lyAddr
      · rw [if_pos hly] at hw
        exact .inr ⟨h.trans hw, w, List.mem_cons_self, hly⟩
      · rw [if_neg hly] at hw
        exact .inl (h.trans hw)
    · exact .inr ⟨h, u, List.mem_cons_of_mem w hu, hly⟩

/-- Only DI, EI and RETI move IME, each to its own value (R260, R313, R314). -/
theorem ime_of_exec {i : Instr} {s t : State} (h : exec i s = .next t) :
    t.ime = s.ime ∨ (i = .di ∧ t.ime = false) ∨ ((i = .ei ∨ i = .reti) ∧ t.ime = true) := by
  rcases (effect_of_exec h).ime with hkept | rfl | rfl | rfl
  · exact .inl hkept
  · cases h; exact .inr (.inl ⟨rfl, rfl⟩)
  · cases h; exact .inr (.inr ⟨.inl rfl, rfl⟩)
  · cases h; exact .inr (.inr ⟨.inr rfl, rfl⟩)

theorem halted_of_exec {i : Instr} {s t : State} (h : exec i s = .next t) :
    t.halted = s.halted ∨ (i = .halt ∧ t.halted = true) := by
  rcases (effect_of_exec h).halted with hkept | rfl
  · exact .inl hkept
  · cases h; exact .inr ⟨rfl, rfl⟩

theorem stopped_of_exec {i : Instr} {s t : State} (h : exec i s = .next t) :
    t.stopped = s.stopped ∨ (i = .stop ∧ t.stopped = true) := by
  rcases (effect_of_exec h).stopped with hkept | rfl
  · exact .inl hkept
  · cases h; exact .inr ⟨rfl, rfl⟩

/-- Settles O39: the CPU's own control bits by the instructions that set them, the rest by the shape of the effect and by
what a hooked write can do to the banks and the line. -/
theorem controlStateFrame : Obligations.ControlStateFrame := by
  intro i s t hk hexec
  have hshape := (effect_of_exec hexec).shape
  refine ⟨ime_of_exec hexec, halted_of_exec hexec, stopped_of_exec hexec, faultsOnlyIfExcepted i s t hexec, ?banks, ?line,
    ?rest⟩
  case banks =>
    rw [hshape]
    exact State.sameBanks_writeAll hk (storesOf i s)
  case line =>
    rw [hshape]
    exact State.line_writeAll hk (storesOf i s)
  case rest =>
    rw [hshape]
    exact ⟨rfl, rfl, rfl, rfl, rfl, rfl, rfl, rfl, rfl, rfl, rfl, rfl⟩

/-! ### Interrupts -/

/-- The least source whose bit is set (R389): every branch before its own tests a lower bit. -/
theorem firstSource_eq_some {m : Byte} {k : InterruptSource} (hset : bitAt m (sourceBit k) = true)
    (hlow : ∀ j < sourceBit k, bitAt m j = false) : firstSource m = some k := by
  cases k <;> simp_all [firstSource, sourceBit]

theorem State.serviceable_of_stopped {s : State} (h : s.stopped = true) : s.serviceable = none := by
  simp [State.serviceable, h]

theorem State.serviceable_of_no_pending {s : State} (h : s.pendingSources = 0#8) : s.serviceable = none := by
  rw [State.serviceable, h]
  exact ite_self none

/-- The vectors stand 8 bytes apart from 0x0040 on (R385). -/
theorem sourceVector_eq_ofNat (k : InterruptSource) : sourceVector k = BitVec.ofNat 16 (0x40 + 8 * sourceBit k) := by
  cases k <;> rfl

/-- Settles O50: nothing is serviceable unless IME is set, the CPU runs or halts and a source is pending; then it is the
least one, and its entry is `State.takeInterrupt`. -/
theorem interruptDispatch : Obligations.InterruptDispatch := by
  intro s m
  refine ⟨fun h => ?stopped, fun h => ?masked, fun h => ?idle, fun k n hk hstopped hime hset hlow => ?entry,
    rfl, rfl, rfl, rfl, rfl⟩
  case stopped => exact State.executeInterrupts_none (State.serviceable_of_stopped h)
  case masked => exact State.executeInterrupts_none (State.serviceable_of_masked h)
  case idle => exact State.executeInterrupts_none (State.serviceable_of_no_pending h)
  case entry =>
    subst hk
    have hsource : s.serviceable = some k :=
      (State.serviceable_of_enabled hime hstopped).trans (firstSource_eq_some hset hlow)
    rw [State.executeInterrupts_some hsource, State.takeInterrupt_eq, sourceVector_eq_ofNat, ← sub_two_add_one]
    rfl

theorem one_shiftLeft_eq_two_pow (b : Nat) : 1#8 <<< b = BitVec.ofNat 8 (2 ^ b) := by
  apply BitVec.eq_of_toNat_eq
  simp [Nat.shiftLeft_eq]

/-- Setting a bit is the bitwise or with its weight (R285, R386). -/
theorem setBit_eq_or_two_pow (v : Byte) (b : Nat) : setBit v b = v ||| BitVec.ofNat 8 (2 ^ b) := by
  rw [setBit, one_shiftLeft_eq_two_pow]

/-- Settles O51: posting is one raw store to IF, a cell no other address shares. -/
theorem interruptPosting : Obligations.InterruptPosting := by
  intro s k
  refine ⟨(s.postInterrupt k).mem, rfl, fun j => ?_⟩
  rw [← setBit_eq_or_two_pow]
  exact Memory.get_set s.mem (echoIndex ifAddr) j _

end Sys2Proof.Machine
end

section
/-! PROOFS of the family 70_reset_and_hazards.md: a tick of a stuck machine (O48). The tick is two calls of `Advance` with no
cycles and a dispatch that finds nothing. Within the invariant such a call changes nothing: below the threshold it counts 0
on, and with the display off it writes the restart state over itself, the 0 in LY included, which a canonical store does not
even list. -/

namespace Sys2Proof.Machine

/-- In a canonical store a listed pair is what its key reads as: no earlier pair has the key. -/
theorem Sparse.get_of_mem {α : Type} [DecidableEq α] {dflt : α} {m : List (Nat × α)} (hm : Sparse.Canonical dflt m)
    {p : Nat × α} (hp : p ∈ m) : Sparse.get dflt m p.1 = p.2 := by
  obtain ⟨hsorted, -⟩ := hm
  induction m with
  | nil => cases hp
  | cons q rest ih =>
    obtain ⟨hhead, htail⟩ := List.pairwise_cons.mp hsorted
    rcases List.mem_cons.mp hp with rfl | hrest
    · exact if_pos rfl
    · exact (if_neg (hhead p hrest).ne').trans (ih hrest htail)

/-- Writing what an unlisted key reads as, where that is read already, leaves a canonical store as it is. -/
theorem Sparse.set_of_get_eq_dflt {α : Type} [DecidableEq α] {dflt : α} {m : List (Nat × α)}
    (hm : Sparse.Canonical dflt m) {i : Nat} (h : Sparse.get dflt m i = dflt) : Sparse.set dflt m i dflt = m := by
  have hne : ∀ p ∈ m, p.1 ≠ i := by
    rintro p hp rfl
    exact hm.2 p hp ((Sparse.get_of_mem hm hp).symm.trans h)
  rw [Sparse.set, if_pos rfl, Sparse.erase, List.filter_eq_self]
  exact fun p hp => decide_eq_true (hne p hp)

/-- Storing the 0 that a cell already holds changes nothing. -/
theorem State.rawWrite_of_rawRead_eq_zero {s : State} (hm : s.mem.wf) {a : Word} (h : s.rawRead a = 0x00#8) :
    s.rawWrite a 0x00#8 = s := by
  have hmem : s.mem.set (echoIndex a) 0x00#8 = s.mem := Sparse.set_of_get_eq_dflt hm h
  rw [State.rawWrite, hmem]

/-- The restart state of R331 is its own restart. -/
theorem State.displayOffReset_of_off {s : State} (hm : s.mem.wf) (hv : s.VideoOk) (hoff : s.displayOn = false) :
    s.displayOffReset = s := by
  obtain ⟨hline, hmode, hclock⟩ := hv.off hoff
  have hly : s.rawRead lyAddr = 0x00#8 := by rw [hv.readback, hline]
  have hpart : VideoPart.mk s.mem 0 .oam 0 s.canvas s.frames = s.videoPart := by
    rw [State.videoPart, hline, hmode, hclock]
  calc s.displayOffReset
    _ = (s.withVideo (.mk s.mem 0 .oam 0 s.canvas s.frames)).rawWrite lyAddr 0x00#8 := rfl
    _ = s.rawWrite lyAddr 0x00#8 := by rw [hpart]; rfl
    _ = s := State.rawWrite_of_rawRead_eq_zero hm hly

/-- With no cycles to count the engine does nothing. -/
theorem State.advance_zero {s : State} (hm : s.mem.wf) (hv : s.VideoOk) : s.advance 0 = s := by
  cases hd : s.displayOn with
  | true => exact s.advance_stay 0 hd hv.clock
  | false => rw [s.advance_off 0 hd, State.displayOffReset_of_off hm hv hd]

/-- A state that is stuck reports so (R450). -/
theorem State.status_of_stuck {s : State} (h : s.Stuck) : s.status = .stuck := by
  obtain ⟨⟨hf, hw⟩, hnone⟩ := h
  have hw' : (s.halted || s.stopped) = true := by simpa using hw
  simp [State.status, hf, hw', hnone]

/-- Settles O48: the tick of a stuck machine is two calls of `Advance` without cycles, and being stuck looks at neither the
break flag nor the reported result. -/
theorem stuckTickIsIdentity : Obligations.StuckTickIsIdentity := by
  intro s hinv hstuck
  have ⟨hwait, hnone⟩ := hstuck
  obtain ⟨line, visible, readback, clock, off⟩ := hinv.video
  have hadvance : { s with breakNext := false }.advance 0 = { s with breakNext := false } :=
    State.advance_zero hinv.memory.mem ⟨line, visible, readback, clock, off⟩
  have hserved : { s with breakNext := false }.executeInterrupts = ({ s with breakNext := false }, 0) :=
    State.executeInterrupts_none hnone
  refine ⟨?_, State.status_of_stuck hstuck, hwait, hnone⟩
  rw [step_of_waiting hwait, State.finishTick_running hwait.1, hadvance, hserved, hadvance]

end Sys2Proof.Machine
end

section
/-! PROOFS of the family 30_encoding.md, continued: the length of an instruction (O4). `decode` and `lengthOf` look at the
same cell of the primary table, so a list is cut where the cell says, and is too short where the cell's bytes run out. -/

namespace Sys2Proof

/-- The lengths of R132, byte by byte. -/
theorem lengthOf_eq_table : ∀ b : Byte, lengthOf b =
    if b ∈ [0x01#8, 0x11#8, 0x21#8, 0x31#8, 0x08#8, 0xC2#8, 0xC3#8, 0xC4#8, 0xCA#8, 0xCC#8, 0xCD#8, 0xD2#8, 0xD4#8,
        0xDA#8, 0xDC#8, 0xEA#8, 0xFA#8] then 3
    else if b ∈ [0x06#8, 0x0E#8, 0x16#8, 0x1E#8, 0x26#8, 0x2E#8, 0x36#8, 0x3E#8, 0x18#8, 0x20#8, 0x28#8, 0x30#8,
        0x38#8, 0xC6#8, 0xCE#8, 0xD6#8, 0xDE#8, 0xE6#8, 0xEE#8, 0xF6#8, 0xFE#8, 0xE0#8, 0xF0#8, 0xE8#8, 0xF8#8,
        0xCB#8] then 2
    else 1 := by
  decide

/-- A list that holds as many bytes as its first one asks for decodes, and they are what is taken off it. -/
theorem decode_of_lengthOf_le {b : Byte} {bytes : List Byte} (h : lengthOf b ≤ bytes.length + 1) :
    ∃ i, decode (b :: bytes) = .ok (i, bytes.drop (lengthOf b - 1)) := by
  unfold lengthOf at h ⊢
  cases hc : primaryCell b <;> simp only [decode, hc] at h ⊢
  case op => exact ⟨_, rfl⟩
  case n8 | cb =>
    match bytes, h with
    | b1 :: rest, _ => exact ⟨_, rfl⟩
  case nn16 =>
    match bytes, h with
    | b1 :: b2 :: rest, _ => exact ⟨_, rfl⟩

/-- A shorter list ends before the cell's bytes do. -/
theorem decode_of_lt_lengthOf {b : Byte} {bytes : List Byte} (h : bytes.length + 1 < lengthOf b) :
    decode (b :: bytes) = .error .truncated := by
  unfold lengthOf at h
  cases hc : primaryCell b <;> simp only [decode, hc] at h ⊢
  case op => omega
  case n8 | cb =>
    match bytes, h with
    | [], _ => rfl
  case nn16 =>
    match bytes, h with
    | [], _ => rfl
    | [b1], _ => rfl

/-- Settles O4: the table byte by byte, then the decoder cell by cell. -/
theorem lengthFromFirstByte : Obligations.LengthFromFirstByte :=
  ⟨lengthOf_eq_table, fun _ _ => decode_of_lengthOf_le, fun _ _ => decode_of_lt_lengthOf⟩

end Sys2Proof
end

section
/-! PROOFS of the family 20_memory.md, continued: the bank commands (O42), the write to LY (O45) and the loading of a
cartridge (O55). -/

namespace Sys2Proof.Machine

/-! ### Bank commands -/

/-- The search from `k` finds a power that is large enough, if its fuel reaches one, and passes none over. -/
theorem bitsForFrom_spec (fuel k n : Nat) (h : n ≤ 2 ^ (k + fuel)) :
    n ≤ 2 ^ bitsForFrom fuel k n ∧ ∀ j, k ≤ j → n ≤ 2 ^ j → bitsForFrom fuel k n ≤ j := by
  induction fuel generalizing k with
  | zero => exact ⟨h, fun j hj _ => hj⟩
  | succ fuel ih =>
    unfold bitsForFrom
    split
    next hk => exact ⟨hk, fun j hj _ => hj⟩
    next hk =>
      obtain ⟨henough, hleast⟩ := ih (k + 1) (by rwa [Nat.add_right_comm])
      refine ⟨henough, fun j hj hn => hleast j ?_ hn⟩
      have hne : k ≠ j := by rintro rfl; exact hk hn
      omega

theorem bitsFor_spec (n : Nat) : n ≤ 2 ^ bitsFor n ∧ ∀ k, n ≤ 2 ^ k → bitsFor n ≤ k := by
  obtain ⟨henough, hleast⟩ := bitsForFrom_spec n 0 n (by simpa using Nat.lt_two_pow_self.le)
  exact ⟨henough, fun k hk => hleast k k.zero_le hk⟩

/-- The mask of R74 is a remainder. -/
theorem bankSelect_eq_mod (v : Byte) (banks : Nat) :
    bankSelect v banks = if banks = 0 then 0 else v.toNat % 2 ^ bitsFor banks % banks := by
  rw [bankSelect, Nat.and_two_pow_sub_one_eq_mod]

section
variable {s : State} (hmode : s.header.mbcMode = .simple) {a : Word} (v : Byte)
include hmode

theorem State.bankControl_simple : s.bankControl a v =
    if a.toNat ≤ 0x1FFF then { s with ramEnabled := decide (v.toNat % 16 = 0xA) }
    else if a.toNat ≤ 0x3FFF then { s with romBank := bankSelect v s.header.romBanks }
    else if a.toNat ≤ 0x5FFF then { s with ramBank := bankSelect v s.header.ramBanks }
    else s := by
  rw [State.bankControl, hmode]

theorem State.bankControl_ramEnable (h : a.toNat ≤ 0x1FFF) :
    s.bankControl a v = { s with ramEnabled := decide (v.toNat % 16 = 0xA) } := by
  rw [State.bankControl_simple hmode, if_pos h]

theorem State.bankControl_romBank (h : 0x2000 ≤ a.toNat) (h' : a.toNat ≤ 0x3FFF) :
    s.bankControl a v = { s with romBank := bankSelect v s.header.romBanks } := by
  rw [State.bankControl_simple hmode, if_neg (by omega), if_pos h']

theorem State.bankControl_ramBank (h : 0x4000 ≤ a.toNat) (h' : a.toNat ≤ 0x5FFF) :
    s.bankControl a v = { s with ramBank := bankSelect v s.header.ramBanks } := by
  rw [State.bankControl_simple hmode, if_neg (by omega), if_neg (by omega), if_pos h']

theorem State.bankControl_unused (h : 0x6000 ≤ a.toNat) : s.bankControl a v = s := by
  rw [State.bankControl_simple hmode, if_neg (by omega), if_neg (by omega), if_neg (by omega)]

end

/-- Settles O42: a write below 0x8000 is the bank command of its sub-range and nothing else. -/
theorem bankControlWrites : Obligations.BankControlWrites := by
  refine ⟨bitsFor_spec, fun s a v hk hlow => ?_⟩
  rw [State.memWrite_low hk hlow]
  refine ⟨fun hmode => ?none, fun hmode => ⟨fun h => ?ramEnable, fun h h' hpos => ?romBank, fun h h' => ?ramBank,
    fun h => ?unused⟩⟩
  case none => rw [State.bankControl, hmode]
  case ramEnable => exact State.bankControl_ramEnable hmode v h
  case romBank => rw [State.bankControl_romBank hmode v h h', bankSelect_eq_mod, if_neg hpos.ne']
  case ramBank => rw [State.bankControl_ramBank hmode v h h', bankSelect_eq_mod]
  case unused => exact State.bankControl_unused hmode v h

/-! ### The write to LY -/

/-- Settles O45: on LY the hook stores 0 over the byte and clears the line; elsewhere it does not run, and no other address
has the cell of LY. -/
theorem lyWriteHook : Obligations.LyWriteHook := by
  refine ⟨fun s v hk => ?ly, fun s a v hk ha => ?elsewhere⟩
  case ly =>
    refine ⟨_, State.memWrite_ly hk v, fun j => ?_⟩
    show ((s.mem.set 0xFF44 v).set 0xFF44 0x00#8).get j = _
    rw [Memory.get_set, Memory.get_set]
    split <;> rfl
  case elsewhere =>
    obtain ⟨hline, -, -⟩ := s.busStore_video a v
    rw [State.memWrite_of_hooks s a v hk, if_neg (show a ≠ lyAddr from ha)]
    exact ⟨hline, s.rawRead_ly_busStore ha v⟩

/-! ### Loading a cartridge -/

theorem mbcModeOf_eq_table : ∀ v : Byte, mbcModeOf v =
    if v = 0x00#8 then some .none else if v = 0x01#8 ∨ v = 0x02#8 ∨ v = 0x03#8 then some .simple else none := by
  decide

theorem romBanksOf_eq_table : ∀ v : Byte, romBanksOf v =
    ([(0x00#8, 2), (0x01#8, 4), (0x02#8, 8), (0x03#8, 16), (0x04#8, 32), (0x05#8, 64), (0x06#8, 128), (0x52#8, 72),
      (0x53#8, 80), (0x54#8, 96)] : List (Byte × Nat)).lookup v := by
  decide

theorem ramBanksOf_eq_table : ∀ v : Byte, ramBanksOf v =
    ([(0x00#8, 0), (0x01#8, 1), (0x02#8, 1), (0x03#8, 4), (0x04#8, 16), (0x05#8, 8)] : List (Byte × Nat)).lookup v := by
  decide

/-- What R8 derives from a cartridge whose codes are in the tables. -/
def Cartridge.headerWith (k : Cartridge) (m : MbcMode) (rom ram : Nat) : Header where
  title := k.title
  cartType := k.bytes.get 0x147
  romCode := k.bytes.get 0x148
  ramCode := k.bytes.get 0x149
  romBanks := rom
  ramBanks := ram
  mbcMode := m

/-- With its codes in the tables, a cartridge loads if it is as long as its ROM code declares: every code declares more than
a header. -/
theorem Cartridge.load_of_codes {k : Cartridge} {m : MbcMode} {rom ram : Nat}
    (hm : mbcModeOf (k.bytes.get 0x147) = some m) (hrom : romBanksOf (k.bytes.get 0x148) = some rom)
    (hram : ramBanksOf (k.bytes.get 0x149) = some ram) :
    k.load = if k.len < rom * 0x4000 then .error .truncated else .ok (k.headerWith m rom ram) := by
  have hbanks : 2 ≤ rom := two_le_of_romBanksOf hrom
  rw [Cartridge.load, hm, hrom, hram]
  split
  · rw [if_pos (by omega)]
  · rfl

theorem Cartridge.codes_of_load {k : Cartridge} {header : Header} (h : k.load = .ok header) :
    ∃ m rom ram, mbcModeOf (k.bytes.get 0x147) = some m ∧ romBanksOf (k.bytes.get 0x148) = some rom ∧
      ramBanksOf (k.bytes.get 0x149) = some ram := by
  unfold Cartridge.load at h
  split at h
  · cases h
  · split at h
    · cases h
    · cases h
    · cases h
    next hm hrom hram => exact ⟨_, _, _, hm, hrom, hram⟩

theorem Cartridge.load_eq_ok_iff (k : Cartridge) (header : Header) : k.load = .ok header ↔
    ∃ m rom ram, mbcModeOf (k.bytes.get 0x147) = some m ∧ romBanksOf (k.bytes.get 0x148) = some rom ∧
      ramBanksOf (k.bytes.get 0x149) = some ram ∧ rom * 0x4000 ≤ k.len ∧ header = k.headerWith m rom ram := by
  constructor
  · intro h
    obtain ⟨m, rom, ram, hm, hrom, hram⟩ := Cartridge.codes_of_load h
    rw [Cartridge.load_of_codes hm hrom hram] at h
    split at h
    next => cases h
    next hlen =>
      cases h
      exact ⟨m, rom, ram, hm, hrom, hram, Nat.not_lt.mp hlen, rfl⟩
  · rintro ⟨m, rom, ram, hm, hrom, hram, hlen, rfl⟩
    rw [Cartridge.load_of_codes hm hrom hram, if_neg (Nat.not_lt.mpr hlen)]

/-- Settles O55: the three tables byte by byte; where all codes are in them the length decides, and the first code that is
not has its own reason. -/
theorem cartridgeLoad : Obligations.CartridgeLoad := by
  refine ⟨mbcModeOf_eq_table, romBanksOf_eq_table, ramBanksOf_eq_table, fun k => ?_⟩
  refine ⟨k.load_eq_ok_iff, fun m rom ram hm hrom hram hlen => ?short, fun rom ram hm hrom hram hlen => ?type,
    fun m ram hm hrom hram hlen => ?romCode, fun m rom hm hrom hram hlen => ?ramCode⟩
  case short => rw [Cartridge.load_of_codes hm hrom hram, if_pos hlen]
  case romCode => rw [Cartridge.load, if_neg (by omega), hm, hrom]
  case type | ramCode =>
    have hbanks : 2 ≤ rom := two_le_of_romBanksOf hrom
    rw [Cartridge.load, if_neg (by omega), hm, hrom, hram]

end Sys2Proof.Machine
end

section
/-! PROOFS of the families 41_load16.md and 43_alu16.md, continued: SP plus a signed byte (O11), ADD HL,rr (O17) and INC and
DEC of a pair (O18). The model adds words; the statements write one sum of numbers, reduced modulo 65536 once. -/

namespace Sys2Proof.Machine

/-! ### Word sums as sums of numbers -/

/-- A signed byte added to a word. -/
theorem add_sext16_eq_ofInt (w : Word) (e : Byte) : w + sext16 e = BitVec.ofInt 16 (w.toNat + e.toInt) := by
  have hsext : sext16 e = BitVec.ofInt 16 e.toInt := rfl
  simp [hsext, BitVec.ofInt_add]

/-- A difference that borrows wraps, as the number below zero does. -/
theorem sub_eq_ofInt {w : Nat} (a x : BitVec w) : a - x = BitVec.ofInt w (a.toNat - x.toNat) := by
  rw [BitVec.sub_eq_add_neg, Int.sub_eq_add_neg, BitVec.ofInt_add, BitVec.ofInt_neg, BitVec.ofInt_natCast,
    BitVec.ofInt_natCast, BitVec.ofNat_toNat, BitVec.ofNat_toNat, BitVec.setWidth_eq, BitVec.setWidth_eq]

/-! ### Encodings and costs of the rows -/

theorem encode_cost_addHlPair (p : Pair) :
    encode (.addHlPair p) = [BitVec.ofNat 8 (0x09 + 16 * p.field)] ∧ instrCycles (.addHlPair p) = 8 := by
  cases p <;> exact ⟨rfl, rfl⟩

theorem encode_cost_incPair (p : Pair) :
    encode (.incPair p) = [BitVec.ofNat 8 (0x03 + 16 * p.field)] ∧ instrCycles (.incPair p) = 8 := by
  cases p <;> exact ⟨rfl, rfl⟩

theorem encode_cost_decPair (p : Pair) :
    encode (.decPair p) = [BitVec.ofNat 8 (0x0B + 16 * p.field)] ∧ instrCycles (.decPair p) = 8 := by
  cases p <;> exact ⟨rfl, rfl⟩

/-! ### The statements -/

/-- Settles O11: both forms are the one computation `addDisp`, whose value is the signed sum. -/
theorem stackPointerDisplacement : Obligations.StackPointerDisplacement := by
  intro e s sum f
  have hsum : s.sp + sext16 e = sum := add_sext16_eq_ofInt s.sp e
  rw [← hsum]
  exact ⟨⟨rfl, rfl, rfl⟩, rfl, rfl, rfl⟩

/-- Settles O17: the pairs are read before HL is written, and the sum of words is that of their numbers. -/
theorem addToHl : Obligations.AddToHl := by
  intro p s hl v
  obtain ⟨hbytes, hcost⟩ := encode_cost_addHlPair p
  have hsum : s.pair .hl + s.pair p = BitVec.ofNat 16 (hl + v) := rfl
  rw [← hsum]
  exact ⟨hbytes, hcost, exec_addHlPair p s⟩

/-- Settles O18: up by one and down by one, each modulo 65536. -/
theorem incrementDecrementPair : Obligations.IncrementDecrementPair := by
  intro p s
  obtain ⟨hincBytes, hincCost⟩ := encode_cost_incPair p
  obtain ⟨hdecBytes, hdecCost⟩ := encode_cost_decPair p
  have hup : s.pair p + 1#16 = BitVec.ofNat 16 ((s.pair p).toNat + 1) := rfl
  have hdown : s.pair p + -1#16 = BitVec.ofInt 16 ((s.pair p).toNat - 1) :=
    (BitVec.sub_eq_add_neg _ _).symm.trans (sub_eq_ofInt _ 1#16)
  rw [← hup, ← hdown]
  exact ⟨⟨hincBytes, hincCost, exec_incPair p s⟩, hdecBytes, hdecCost, exec_decPair p s⟩

end Sys2Proof.Machine
end

section
/-! PROOFS of the family 42_alu8.md, continued: SUB and CP (O13), SBC or its stub (O14), the logic operations (O15) and INC and
DEC of a byte (O16). -/

namespace Sys2Proof.Machine

/-! ### What the operations compute, in the words of the statements -/

/-- The carry is subtracted with the operand (R204). -/
theorem sub8_eq (a x : Byte) (c : Bool) : sub8 a x c =
    { value := BitVec.ofInt 8 (a.toNat - x.toNat - bit01 c)
      flags :=
        { z := decide (BitVec.ofInt 8 (a.toNat - x.toNat - bit01 c) = 0#8)
          n := true
          h := decide (a.toNat % 16 < x.toNat % 16 + bit01 c)
          c := decide (a.toNat < x.toNat + bit01 c) } } := by
  have hvalue : a - x - BitVec.ofNat 8 (bit01 c) = BitVec.ofInt 8 (a.toNat - x.toNat - bit01 c) := by
    rw [sub_eq_ofInt a x, BitVec.sub_eq_add_neg, ← BitVec.ofInt_natCast, ← BitVec.ofInt_neg, ← BitVec.ofInt_add,
      ← Int.sub_eq_add_neg]
  rw [sub8, hvalue]

/-- Without a carry the difference is zero where the operands are equal (R203). -/
theorem sub8_false (a x : Byte) : sub8 a x false =
    { value := BitVec.ofInt 8 (a.toNat - x.toNat)
      flags :=
        { z := decide (a = x)
          n := true
          h := decide (a.toNat % 16 < x.toNat % 16)
          c := decide (a.toNat < x.toNat) } } := by
  have hvalue : a - x - BitVec.ofNat 8 (bit01 false) = a - x := BitVec.sub_zero _
  have hzero : a - x = 0#8 ↔ a = x := by bv_omega
  simp only [sub8, hvalue, hzero]
  rw [sub_eq_ofInt]
  rfl

/-- Only 0xFF goes to 0 (R209). -/
theorem inc8_eq (v : Byte) (f : Flags) : inc8 v f =
    { value := BitVec.ofNat 8 (v.toNat + 1)
      flags := { z := decide (v.toNat = 0xFF), n := false, h := decide (v.toNat % 16 = 0xF), c := f.c } } := by
  have hzero : v + 1#8 = 0#8 ↔ v.toNat = 0xFF := by bv_omega
  simp only [inc8, hzero]
  rfl

/-- Only 1 goes to 0 (R211). -/
theorem dec8_eq (v : Byte) (f : Flags) : dec8 v f =
    { value := BitVec.ofInt 8 (v.toNat - 1)
      flags := { z := decide (v.toNat = 1), n := true, h := decide (v.toNat % 16 = 0), c := f.c } } := by
  have hzero : v - 1#8 = 0#8 ↔ v.toNat = 1 := by bv_omega
  simp only [dec8, hzero]
  rw [sub_eq_ofInt]
  rfl

/-! ### The rows -/

theorem encode_cost_incR (o : Operand8) :
    encode (.incR o) = [BitVec.ofNat 8 (0x04 + 8 * o.field)] ∧ instrCycles (.incR o) = if o = .atHl then 12 else 4 := by
  cases o with
  | reg r => cases r <;> exact ⟨rfl, rfl⟩
  | atHl => exact ⟨rfl, rfl⟩

theorem encode_cost_decR (o : Operand8) :
    encode (.decR o) = [BitVec.ofNat 8 (0x05 + 8 * o.field)] ∧ instrCycles (.decR o) = if o = .atHl then 12 else 4 := by
  cases o with
  | reg r => cases r <;> exact ⟨rfl, rfl⟩
  | atHl => exact ⟨rfl, rfl⟩

/-! ### The statements -/

/-- Settles O13: SUB is `sub8` without a carry, and CP is its flags beside A. -/
theorem subAndCp : Obligations.SubAndCp := by
  intro o n s sub
  have hsub (x : Byte) (len : Nat) : s.aluWith .sub x len = sub len false x :=
    State.aluWith_eq_withResult (op := .sub) (sub8_false s.a x) len
  have hcp (x : Byte) (len : Nat) : s.aluWith .cp x len = sub len true x :=
    State.aluWith_eq_withResult (op := .cp) (congrArg (fun r : Computed => Computed.mk s.a r.flags) (sub8_false s.a x)) len
  rw [← hsub, ← hsub, ← hcp, ← hcp]
  exact ⟨aluR_row .sub nofun o s, aluN_row .sub nofun n s, aluR_row .cp nofun o s, aluN_row .cp nofun n s⟩

/-- Settles O14: SBC is `sub8` with the carry in F, unless it is stubbed. -/
theorem sbcOrStub : Obligations.SbcOrStub := by
  intro o n s sbc stub
  have hsbc (x : Byte) (len : Nat) : s.aluWith .sbc x len = sbc len x :=
    State.aluWith_eq_withResult (op := .sbc) (sub8_eq s.a x s.f.c) len
  obtain ⟨hbytes, hcost⟩ := encode_cost_aluR .sbc o
  rw [← hsbc, ← hsbc]
  exact ⟨⟨hbytes, hcost, exec_sbcR o s⟩, rfl, rfl, exec_sbcN n s⟩

/-- Settles O15: the rows of R200 for AND, XOR and OR, whose values and flags the model computes as the rules write them. -/
theorem logicOperations : Obligations.LogicOperations := by
  intro o n s res
  exact ⟨aluR_row .and nofun o s, aluN_row .and nofun n s, aluR_row .xor nofun o s, aluN_row .xor nofun n s,
    aluR_row .or nofun o s, aluN_row .or nofun n s⟩

/-- Settles O16: the operand is read once, and the flags are those of the value that `inc8` or `dec8` gives to write. -/
theorem incrementDecrementByte : Obligations.IncrementDecrementByte := by
  intro o s v
  obtain ⟨hincBytes, hincCost⟩ := encode_cost_incR o
  obtain ⟨hdecBytes, hdecCost⟩ := encode_cost_decR o
  refine ⟨⟨hincBytes, hincCost, ?inc⟩, hdecBytes, hdecCost, ?dec⟩
  case inc => rw [exec_incR, State.incOperand, inc8_eq]; rfl
  case dec => rw [exec_decR, State.decOperand, dec8_eq]; rfl

end Sys2Proof.Machine
end

section
/-! PROOFS of the family 46_rotate_shift_bit.md, continued: RES and SET (O29), DAA (O30), and that ADD or SUB and then DAA is
decimal arithmetic (O31). -/

namespace Sys2Proof.Machine

/-! ### Clearing and setting a bit -/

/-- What a bit weighs in a number: its power of two where it is set, else nothing. -/
def bitWeight (n b : Nat) : Nat := if n / 2 ^ b % 2 = 1 then 2 ^ b else 0

theorem bitWeight_le (n b : Nat) : bitWeight n b ≤ n := by
  unfold bitWeight
  split
  next h =>
    by_contra hlt
    rw [Nat.div_eq_of_lt (Nat.not_le.mp hlt)] at h
    cases h
  next => exact n.zero_le

/-- A bit of a byte as a digit of its number. -/
theorem bitAt_eq_decide (v : Byte) (b : Nat) : bitAt v b = decide (v.toNat / 2 ^ b % 2 = 1) :=
  Nat.testBit_eq_decide_div_mod_eq

theorem and_one_shiftLeft (v : Byte) (b : Nat) : v &&& 1#8 <<< b = BitVec.ofNat 8 (bitWeight v.toNat b) := by
  have hbit : v.getLsbD b = decide (v.toNat / 2 ^ b % 2 = 1) := bitAt_eq_decide v b
  rw [← BitVec.twoPow_eq, BitVec.and_twoPow, hbit, BitVec.twoPow_eq, one_shiftLeft_eq_two_pow, bitWeight,
    apply_ite (BitVec.ofNat 8)]
  simp only [decide_eq_true_eq]

/-- A byte without a bit, and the bit, share no bit and make up the byte. -/
theorem clearBit_add_and (v : Byte) (b : Nat) : clearBit v b + (v &&& 1#8 <<< b) = v := by
  unfold clearBit
  generalize 1#8 <<< b = m
  rw [BitVec.add_eq_or_of_and_eq_zero]
  · ext i hi
    cases hm : m[i] <;> simp [hm]
  · ext i hi
    cases hm : m[i] <;> simp [hm]

/-- Setting a bit is clearing it and adding it. -/
theorem clearBit_add_one_shiftLeft (v : Byte) (b : Nat) : clearBit v b + 1#8 <<< b = setBit v b := by
  unfold clearBit setBit
  generalize 1#8 <<< b = m
  rw [BitVec.add_eq_or_of_and_eq_zero]
  · ext i hi
    cases hm : m[i] <;> simp [hm]
  · ext i hi
    cases hm : m[i] <;> simp [hm]

/-- RES takes the bit's weight off the number (R284). -/
theorem clearBit_eq_ofNat (v : Byte) (b : Nat) : clearBit v b = BitVec.ofNat 8 (v.toNat - bitWeight v.toNat b) := by
  apply add_right_cancel (b := BitVec.ofNat 8 (bitWeight v.toNat b))
  calc clearBit v b + BitVec.ofNat 8 (bitWeight v.toNat b)
    _ = v := by rw [← and_one_shiftLeft, clearBit_add_and]
    _ = BitVec.ofNat 8 (v.toNat - bitWeight v.toNat b + bitWeight v.toNat b) := by
      rw [Nat.sub_add_cancel (bitWeight_le _ _), BitVec.ofNat_toNat, BitVec.setWidth_eq]
    _ = BitVec.ofNat 8 (v.toNat - bitWeight v.toNat b) + BitVec.ofNat 8 (bitWeight v.toNat b) := BitVec.ofNat_add _ _

/-- SET adds the bit's weight where the number lacks it (R285). -/
theorem setBit_eq_ofNat (v : Byte) (b : Nat) :
    setBit v b = BitVec.ofNat 8 (v.toNat + if v.toNat / 2 ^ b % 2 = 1 then 0 else 2 ^ b) := by
  have hweight : v.toNat - bitWeight v.toNat b + 2 ^ b = v.toNat + if v.toNat / 2 ^ b % 2 = 1 then 0 else 2 ^ b := by
    have hle := bitWeight_le v.toNat b
    by_cases h : v.toNat / 2 ^ b % 2 = 1
    · rw [bitWeight, if_pos h] at hle
      rw [bitWeight, if_pos h, if_pos h, Nat.sub_add_cancel hle, Nat.add_zero]
    · rw [bitWeight, if_neg h, if_neg h, Nat.sub_zero]
  rw [← clearBit_add_one_shiftLeft, clearBit_eq_ofNat, one_shiftLeft_eq_two_pow, ← BitVec.ofNat_add, hweight]

theorem encode_cost_resR (b : Index8) (o : Operand8) :
    encode (.resR b o) = [0xCB#8, BitVec.ofNat 8 (0x80 + 8 * b.toNat + o.field)] ∧
      instrCycles (.resR b o) = if o = .atHl then 16 else 8 := by
  cases o with
  | reg r => cases b <;> cases r <;> exact ⟨rfl, rfl⟩
  | atHl => cases b <;> exact ⟨rfl, rfl⟩

theorem encode_cost_setR (b : Index8) (o : Operand8) :
    encode (.setR b o) = [0xCB#8, BitVec.ofNat 8 (0xC0 + 8 * b.toNat + o.field)] ∧
      instrCycles (.setR b o) = if o = .atHl then 16 else 8 := by
  cases o with
  | reg r => cases b <;> cases r <;> exact ⟨rfl, rfl⟩
  | atHl => cases b <;> exact ⟨rfl, rfl⟩

/-- Settles O29: each is one write of the operand, or its stub. -/
theorem resetAndSetBit : Obligations.ResetAndSetBit := by
  intro b o s v does
  obtain ⟨hresBytes, hresCost⟩ := encode_cost_resR b o
  obtain ⟨hsetBytes, hsetCost⟩ := encode_cost_setR b o
  refine ⟨⟨hresBytes, hresCost, ?res⟩, hsetBytes, hsetCost, ?set⟩
  case res => exact (exec_resR b o s).trans (by rw [State.unlessStubbed, State.resBit, clearBit_eq_ofNat]; rfl)
  case set => exact (exec_setR b o s).trans (by rw [State.unlessStubbed, State.setBitOf, setBit_eq_ofNat]; rfl)

/-! ### DAA -/

/-- The low correction in one formula: the digit is tested only after an addition. -/
theorem daaLow_eq (a : Byte) (f : Flags) : daaLow a f = (f.h || (!f.n && decide (a.toNat % 16 > 9))) := by
  cases hn : f.n <;> simp [daaLow, hn]

theorem daaHigh_eq (a : Byte) (f : Flags) : daaHigh a f = (f.c || (!f.n && decide (a.toNat > 0x99))) := by
  cases hn : f.n <;> simp [daaHigh, hn]

/-- The two corrections share no bit, so their bitwise or is their sum. -/
theorem daaAdjust_eq_ofNat (a : Byte) (f : Flags) :
    daaAdjust a f = BitVec.ofNat 8 ((if daaLow a f then 0x06 else 0) + (if daaHigh a f then 0x60 else 0)) := by
  unfold daaAdjust
  cases daaLow a f <;> cases daaHigh a f <;> rfl

/-- The corrected byte as one signed sum. -/
theorem daaCompute_value (a : Byte) (f : Flags) :
    (daaCompute a f).value =
      let adj : Nat := (if daaLow a f then 0x06 else 0) + (if daaHigh a f then 0x60 else 0)
      BitVec.ofInt 8 (if f.n then (a.toNat : Int) - adj else (a.toNat : Int) + adj) := by
  have ha : a = BitVec.ofInt 8 a.toNat := by simp
  have hadj := (daaAdjust_eq_ofNat a f).trans (BitVec.ofInt_natCast 8 _).symm
  cases hn : f.n with
  | false =>
    simp only [daaCompute, hn, Bool.false_eq_true, if_false]
    rw [hadj, BitVec.ofInt_add, ← ha]
  | true =>
    simp only [daaCompute, hn, if_true]
    rw [hadj, Int.sub_eq_add_neg, BitVec.ofInt_add, BitVec.ofInt_neg, ← ha, BitVec.sub_eq_add_neg]

/-- Settles O30: the model's two branches on N are the statement's one formula, and Z is that of the value. -/
theorem decimalAdjust : Obligations.DecimalAdjust := by
  intro s low high adj v
  have hvalue : (daaCompute s.a s.f).value = v := by
    rw [daaCompute_value, daaLow_eq, daaHigh_eq]
  have hstate : s.decimalAdjust = s.withResult 1 (daaCompute s.a s.f).value
      (decide ((daaCompute s.a s.f).value = 0#8)) s.f.n false (daaHigh s.a s.f) := rfl
  refine ⟨rfl, rfl, congrArg Host.Outcome.next ?_⟩
  rw [hstate, hvalue, daaHigh_eq]

/-! ### Decimal arithmetic -/

/-- The number of a packed decimal byte that holds two digits. -/
def packed (n : Nat) : Nat := 16 * (n / 10) + n % 10

/-- The packed decimal byte of a number of two digits. -/
def bcd (n : Nat) : Byte := BitVec.ofNat 8 (packed n)

theorem toNat_bcd {n : Nat} (h : n < 100) : (bcd n).toNat = packed n := by
  rw [bcd, BitVec.toNat_ofNat, packed]
  omega

theorem packed_mod_sixteen (n : Nat) : packed n % 16 = n % 10 := by
  rw [packed]
  omega

section
variable {x y : Nat} (hx : x < 100) (hy : y < 100)
include hx hy

/-- ADD on two packed bytes: H is the carry of the low digits beyond 15. -/
theorem add8_bcd : add8 (bcd x) (bcd y) false =
    { value := BitVec.ofNat 8 (packed x + packed y)
      flags :=
        { z := decide ((packed x + packed y) % 256 = 0)
          n := false
          h := decide (x % 10 + y % 10 > 0xF)
          c := decide (packed x + packed y > 0xFF) } } := by
  rw [add8, toNat_bcd hx, toNat_bcd hy, packed_mod_sixteen, packed_mod_sixteen]
  rfl

/-- SUB on two packed bytes: H is the borrow of the low digits, C that of the numbers. -/
theorem sub8_bcd : sub8 (bcd x) (bcd y) false =
    { value := BitVec.ofInt 8 (packed x - packed y)
      flags :=
        { z := decide (bcd x = bcd y)
          n := true
          h := decide (x % 10 < y % 10)
          c := decide (x < y) } } := by
  have hborrow : packed x < packed y ↔ x < y := by
    rw [packed, packed]
    omega
  simp only [sub8_false, toNat_bcd hx, toNat_bcd hy, packed_mod_sixteen, hborrow]

/-- After an addition the low correction is made where the low digits carry: H says so from 16 on, the digit test before. -/
theorem daaLow_add8_bcd {r : Computed} (hr : add8 (bcd x) (bcd y) false = r) :
    daaLow r.value r.flags = decide (10 ≤ x % 10 + y % 10) := by
  have htest : x % 10 + y % 10 > 0xF ∨ (packed x + packed y) % 256 % 16 > 9 ↔ 10 ≤ x % 10 + y % 10 := by
    rw [packed, packed]
    omega
  rw [← hr, add8_bcd hx hy, daaLow_eq, Bool.not_false, Bool.true_and, ← Bool.decide_or, BitVec.toNat_ofNat]
  exact decide_eq_decide.mpr htest

/-- After an addition the high correction is made where the sum has three digits. -/
theorem daaHigh_add8_bcd {r : Computed} (hr : add8 (bcd x) (bcd y) false = r) :
    daaHigh r.value r.flags = decide (100 ≤ x + y) := by
  have htest : packed x + packed y > 0xFF ∨ (packed x + packed y) % 256 > 0x99 ↔ 100 ≤ x + y :=
    calc packed x + packed y > 0xFF ∨ (packed x + packed y) % 256 > 0x99
      _ ↔ packed x + packed y > 0x99 := by omega
      _ ↔ 100 ≤ x + y := by
        rw [packed, packed]
        rcases Nat.lt_or_ge (x / 10 + y / 10) 10 with h | h <;> omega
  rw [← hr, add8_bcd hx hy, daaHigh_eq, Bool.not_false, Bool.true_and, ← Bool.decide_or, BitVec.toNat_ofNat]
  exact decide_eq_decide.mpr htest

/-- The binary sum of two packed bytes, corrected by 6 for a carry out of the low digits and by 0x60 for one out of the high
digits, is the packed sum. -/
theorem packed_add : ((packed x + packed y) % 256 + ((if 10 ≤ x % 10 + y % 10 then 0x06 else 0) +
    if 100 ≤ x + y then 0x60 else 0)) % 256 = packed ((x + y) % 100) := by
  unfold packed
  rcases Nat.lt_or_ge (x / 10 + y / 10) 10 with h | h <;> split <;> split <;> omega

theorem daa_add8_bcd {r : Computed} (hr : add8 (bcd x) (bcd y) false = r) :
    (daaCompute r.value r.flags).value = bcd ((x + y) % 100) := by
  apply BitVec.eq_of_toNat_eq
  rw [daaCompute_value, daaLow_add8_bcd hx hy hr, daaHigh_add8_bcd hx hy hr, toNat_bcd (Nat.mod_lt _ (by decide)),
    ← packed_add hx hy, ← hr, add8_bcd hx hy]
  simp only [Bool.false_eq_true, if_false, decide_eq_true_eq]
  rw [← Int.natCast_add, BitVec.ofInt_natCast, BitVec.toNat_ofNat, BitVec.toNat_ofNat]

/-- After a subtraction both corrections are the borrows that SUB has reported. -/
theorem daaLow_sub8_bcd {r : Computed} (hr : sub8 (bcd x) (bcd y) false = r) :
    daaLow r.value r.flags = decide (x % 10 < y % 10) := by
  rw [← hr, sub8_bcd hx hy]
  rfl

theorem daaHigh_sub8_bcd {r : Computed} (hr : sub8 (bcd x) (bcd y) false = r) :
    daaHigh r.value r.flags = decide (x < y) := by
  rw [← hr, sub8_bcd hx hy]
  rfl

/-- The binary difference, corrected for its two borrows, is the packed difference. -/
theorem packed_sub : ((packed x : Int) - packed y) % 256 -
    (((if x % 10 < y % 10 then 0x06 else 0) + if x < y then 0x60 else 0 : Nat) : Int) ≡
      packed ((x + 100 - y) % 100) [ZMOD 256] := by
  unfold packed Int.ModEq
  split <;> split <;> omega

theorem daa_sub8_bcd {r : Computed} (hr : sub8 (bcd x) (bcd y) false = r) :
    (daaCompute r.value r.flags).value = bcd ((x + 100 - y) % 100) := by
  have hbase : ((2 ^ 8 : Nat) : Int) = 256 := rfl
  have hnonneg : 0 ≤ ((packed x : Int) - packed y) % 256 := Int.emod_nonneg _ (by decide)
  have hsmall : packed ((x + 100 - y) % 100) < 256 := by
    rw [packed]
    omega
  apply BitVec.eq_of_toNat_eq
  rw [daaCompute_value, daaLow_sub8_bcd hx hy hr, daaHigh_sub8_bcd hx hy hr, toNat_bcd (Nat.mod_lt _ (by decide)),
    ← hr, sub8_bcd hx hy]
  simp only [if_true, decide_eq_true_eq]
  rw [BitVec.toNat_ofInt, BitVec.toNat_ofInt, hbase, Int.toNat_of_nonneg hnonneg, packed_sub hx hy]
  omega

end

/-- Settles O31: DAA after ADD and after SUB, on the value and the flags that either of them leaves. -/
theorem bcdArithmetic : Obligations.BcdArithmetic := by
  intro x y s hx hy bcd' ha
  have hadd : add8 (bcd x) (bcd y) false = aluCompute .add s.a (bcd y) s.f := by rw [ha]; rfl
  have hsub : sub8 (bcd x) (bcd y) false = aluCompute .sub s.a (bcd y) s.f := by rw [ha]; rfl
  refine ⟨⟨s.aluImm .add (bcd y), (s.aluImm .add (bcd y)).decimalAdjust, rfl, rfl, daa_add8_bcd hx hy hadd, ?addCarry⟩,
    ⟨s.aluImm .sub (bcd y), (s.aluImm .sub (bcd y)).decimalAdjust, rfl, rfl, daa_sub8_bcd hx hy hsub, ?subCarry⟩⟩
  case addCarry => exact (Bool.eq_iff_iff.mp (daaHigh_add8_bcd hx hy hadd)).trans decide_eq_true_iff
  case subCarry => exact (Bool.eq_iff_iff.mp (daaHigh_sub8_bcd hx hy hsub)).trans decide_eq_true_iff

end Sys2Proof.Machine
end

section
/-! PROOFS of the family 10_state.md, continued: registers, pairs and flags (O5) and the values after reset (O54); and of the
family 47_cpu_control.md: HALT and STOP (O34). -/

namespace Sys2Proof.Machine

/-! ### Pairs and flags -/

theorem State.toNat_pair (s : State) :
    (s.pair .bc).toNat = s.b.toNat * 256 + s.c.toNat ∧ (s.pair .de).toNat = s.d.toNat * 256 + s.e.toNat ∧
      (s.pair .hl).toNat = s.h.toNat * 256 + s.l.toNat :=
  ⟨toNat_wordOf _ _, toNat_wordOf _ _, toNat_wordOf _ _⟩

/-- The four flags and the zero nibble in the byte view of F (R24). -/
theorem Flags.bits_toByte (f : Flags) :
    bitAt f.toByte 7 = f.z ∧ bitAt f.toByte 6 = f.n ∧ bitAt f.toByte 5 = f.h ∧ bitAt f.toByte 4 = f.c := by
  have hback : Flags.ofByte f.toByte = f := f.ofByte_toByte
  exact ⟨congrArg Flags.z hback, congrArg Flags.n hback, congrArg Flags.h hback, congrArg Flags.c hback⟩

/-- The byte view is a byte read into F, so its low nibble has been dropped. -/
theorem Flags.toByte_low_nibble (f : Flags) : f.toByte &&& 0x0F#8 = 0x00#8 := by
  have hmask : f.toByte = f.toByte &&& 0xF0#8 := by rw [← Flags.toByte_ofByte, Flags.ofByte_toByte]
  rw [hmask, BitVec.and_assoc]
  exact BitVec.and_zero

/-- Settles O5: the register laws, the weights of the halves of a pair, and the byte view of F with its reading. -/
theorem registersPairsAndFlags : Obligations.RegistersPairsAndFlags := by
  refine ⟨State.reg_setReg, fun s => ?views, fun s v => ?writes, fun f => ?flags⟩
  case views =>
    obtain ⟨hbc, hde, hhl⟩ := s.toNat_pair
    exact ⟨toNat_wordOf _ _, hbc, rfl, hde, rfl, hhl, rfl, rfl⟩
  case writes =>
    intro hi lo
    have hhi : hiByte v = hi := hiByte_eq_ofNat v
    rw [← hhi]
    exact ⟨rfl, rfl, rfl, rfl, rfl, rfl, rfl, Flags.ofByte (loByte v), rfl, Flags.toByte_ofByte lo⟩
  case flags =>
    obtain ⟨hz, hn, hh, hc⟩ := f.bits_toByte
    exact ⟨hz, hn, hh, hc, f.toByte_low_nibble⟩

/-! ### Reset -/

/-- Settles O54: reset answers the load's failure, or `LoadParams.machine`, whose fields are the table of R50. -/
theorem powerOnValues : Obligations.PowerOnValues := by
  refine fun p => ⟨fun e hload => by rw [powerOn, hload], fun header hload => ?_⟩
  refine ⟨p.machine header, powerOn_of_load hload, ⟨rfl, rfl, rfl, rfl, rfl, rfl, rfl, rfl, rfl⟩,
    p.init.f.toByte_low_nibble, ?pc, ?overlay, rfl, rfl, rfl, rfl, rfl, rfl, rfl, rfl, rfl, rfl, rfl, rfl, rfl, rfl,
    fun j => p.init.mem.get_set 0xFF44 j 0x00#8, rfl, rfl, rfl, rfl, rfl⟩
  case pc =>
    show (if p.bootOverlay.isSome then 0x0000#16 else 0x0100#16) = _
    cases p.bootOverlay <;> rfl
  case overlay => exact Option.isSome_iff_ne_none

/-! ### HALT and STOP -/

/-- Settles O34: the rows and the meanings of HALT and STOP, as the model defines them. -/
theorem haltAndStop : Obligations.HaltAndStop := fun _ => ⟨⟨rfl, rfl, rfl⟩, rfl, rfl, rfl⟩

end Sys2Proof.Machine
end

section
/-! PROOFS of the family 48_video_timing.md, continued: the pixels of a rendered line (O53). -/

namespace Sys2Proof.Machine

theorem bit01_bitAt (v : Byte) (b : Nat) : bit01 (bitAt v b) = v.toNat / 2 ^ b % 2 := by
  rw [bitAt_eq_decide, bit01]
  rcases Nat.mod_two_eq_zero_or_one (v.toNat / 2 ^ b) with h | h <;> simp [h]

/-- The colour index as the two digits of R342. -/
theorem State.colourIndex_eq (s : State) (bx by' : Nat) :
    s.colourIndex bx by' =
      let row := tileAddr (s.rawRead lcdcAddr) (s.tileIndex bx by') + by' % 8 * 2
      2 * ((s.vramRead (row + 1)).toNat / 2 ^ (7 - bx % 8) % 2) + (s.vramRead row).toNat / 2 ^ (7 - bx % 8) % 2 := by
  rw [State.colourIndex, bit01_bitAt, bit01_bitAt]

theorem Canvas.row_set (c : Canvas) (i : Nat) (r : List Pixel) (j : Nat) :
    Canvas.row (Sparse.set blankRow c i r) j = if j = i then r else c.row j :=
  Sparse.get_set blankRow c i j r

theorem State.row_renderLine (s : State) (ly row : Nat) :
    (s.renderLine ly).canvas.row row = if row = ly then s.renderRow ly else s.canvas.row row :=
  Canvas.row_set s.canvas ly (s.renderRow ly) row

theorem State.pixel_renderLine (s : State) (ly : Nat) {x : Nat} (hx : x < 160) :
    (s.renderLine ly).canvas.pixel ly x = s.backgroundPixel ly x := by
  rw [Canvas.pixel, State.row_renderLine, if_pos rfl, State.renderRow]
  simp [hx]

/-- Settles O53: the line rendered is the one row written, and its pixel is `State.backgroundPixel`, whose colour index the
statement writes in digits. -/
theorem renderLinePixels : Obligations.RenderLinePixels := by
  intro s ly x hx lcdc byCoord bxCoord base idx taddr lo hi bit ci shade grey
  have hcolour : s.colourIndex bxCoord byCoord = ci := s.colourIndex_eq bxCoord byCoord
  refine ⟨(s.renderLine ly).canvas, rfl, ?pixel, fun row hrow => ?frame⟩
  case pixel =>
    calc (s.renderLine ly).canvas.pixel ly x
      _ = s.backgroundPixel ly x := s.pixel_renderLine ly hx
      _ = shadePixel (shadeOf (s.rawRead bgpAddr) (s.colourIndex bxCoord byCoord)) := rfl
      _ = _ := by rw [hcolour]; rfl
  case frame => rw [State.row_renderLine, if_neg hrow]

end Sys2Proof.Machine
end
